-- ==== Sys2Proof/Word.lean ====
section
/-! DEFINITION. The two bit-vector types the spec's registers and memory are made of: bytes (00_scope.md R10) and the 32-bit
words of the X registers, of the Salsa20 words and of command words (00_scope.md R9, parameter XLEN). -/

namespace Sys2Proof

/-- A byte, 8 bits (00_scope.md R10). -/
abbrev Byte := BitVec 8

/-- A 32-bit word (00_scope.md R9: XLEN = 32). -/
abbrev Word := BitVec 32

end Sys2Proof
end

