-- ==== Sys2Proof/Syntax.lean ====
section
/-! DEFINITION. The commands of the block, one constructor per row of the opcode map (30_encoding.md R103). The operands
stand in field order d, a, b, c, e, f with the must-be-zero fields left out, as in the assembler syntax of R109. -/

namespace Sys2Proof

/-- Index of a general register (10_state.md R22: 16 of them; R23: no field value names a register that is not there). -/
abbrev XReg := Fin 16
/-- Index of a field register (10_state.md R28). -/
abbrev FReg := Fin 16
/-- Index of a scalar register (10_state.md R29). -/
abbrev SReg := Fin 16
/-- Index of a point register (10_state.md R30). -/
abbrev PReg := Fin 16
/-- Index of a Salsa20 working word, the immediate of SA.QR (30_encoding.md R104). -/
abbrev WIdx := Fin 16

/-- The 45 commands (30_encoding.md R103). An `XReg` operand is an X value, an X result or an X indirect address, as the
row says. -/
inductive Instr where
  /-- NOP, 40_system.md R131. -/
  | nop
  /-- WIPE, 40_system.md R132. -/
  | wipe
  /-- FE.UNPACK Fd, [Xa], 41_fe25519.md R142. -/
  | feUnpack (d : FReg) (a : XReg)
  /-- FE.PACK [Xd], Fa, 41_fe25519.md R143. -/
  | fePack (d : XReg) (a : FReg)
  /-- FE.ADD Fd, Fa, Fb, 41_fe25519.md R144. -/
  | feAdd (d a b : FReg)
  /-- FE.SUB Fd, Fa, Fb, 41_fe25519.md R145. -/
  | feSub (d a b : FReg)
  /-- FE.MUL Fd, Fa, Fb, 41_fe25519.md R146. -/
  | feMul (d a b : FReg)
  /-- FE.SQ Fd, Fa, 41_fe25519.md R147. -/
  | feSq (d a : FReg)
  /-- FE.CMOV Fd, Fa, Xb, 41_fe25519.md R148. -/
  | feCmov (d a : FReg) (b : XReg)
  /-- FE.ISEQ Xd, Fa, Fb, 41_fe25519.md R149. -/
  | feIseq (d : XReg) (a b : FReg)
  /-- FE.PARITY Xd, Fa, 41_fe25519.md R150. -/
  | feParity (d : XReg) (a : FReg)
  /-- FE.INV Fd, Fa, 41_fe25519.md R152. -/
  | feInv (d a : FReg)
  /-- FE.POW2523 Fd, Fa, 41_fe25519.md R153. -/
  | fePow2523 (d a : FReg)
  /-- SC.FROM32 Sd, [Xa], 42_sc25519.md R172. -/
  | scFrom32 (d : SReg) (a : XReg)
  /-- SC.FROM64 Sd, [Xa], 42_sc25519.md R173. -/
  | scFrom64 (d : SReg) (a : XReg)
  /-- SC.TO32 [Xd], Sa, 42_sc25519.md R174. -/
  | scTo32 (d : XReg) (a : SReg)
  /-- SC.ADD Sd, Sa, Sb, 42_sc25519.md R175. -/
  | scAdd (d a b : SReg)
  /-- SC.MUL Sd, Sa, Sb, 42_sc25519.md R176. -/
  | scMul (d a b : SReg)
  /-- SC.WINDOW3 [Xd], Sa, 42_sc25519.md R177. -/
  | scWindow3 (d : XReg) (a : SReg)
  /-- SC.INTLV2 [Xd], Sa, Sb, 42_sc25519.md R178. -/
  | scIntlv2 (d : XReg) (a b : SReg)
  /-- GE.UNPACKNEG Pd, [Xa], Xb, 43_ge25519.md R193. -/
  | geUnpackneg (d : PReg) (a b : XReg)
  /-- GE.PACK [Xd], Pa, 43_ge25519.md R194. -/
  | gePack (d : XReg) (a : PReg)
  /-- GE.ADD Pd, Pa, Pb, 43_ge25519.md R195. -/
  | geAdd (d a b : PReg)
  /-- GE.DBL Pd, Pa, 43_ge25519.md R196. -/
  | geDbl (d a : PReg)
  /-- GE.MADD Pd, Pa, Xb, [Xc], 43_ge25519.md R198. -/
  | geMadd (d a : PReg) (b c : XReg)
  /-- GE.SMULBASE Pd, Sa, 43_ge25519.md R199. -/
  | geSmulbase (d : PReg) (a : SReg)
  /-- GE.DSMUL Pd, Pa, Sb, Pc, Se, 43_ge25519.md R200. -/
  | geDsmul (d a : PReg) (b : SReg) (c : PReg) (e : SReg)
  /-- X.LADDER [Xd], [Xa], [Xb], 44_curve25519.md R224. -/
  | xLadder (d a b : XReg)
  /-- X.BASE [Xd], [Xa], 44_curve25519.md R225. -/
  | xBase (d a : XReg)
  /-- SA.LDW [Xa], [Xb], [Xc], 45_salsa20.md R238. -/
  | saLdw (a b c : XReg)
  /-- SA.STW [Xd], 45_salsa20.md R239. -/
  | saStw (d : XReg)
  /-- SA.QR i0, i1, i2, i3, 45_salsa20.md R240. -/
  | saQr (i0 i1 i2 i3 : WIdx)
  /-- SA.DROUND, 45_salsa20.md R241. -/
  | saDround
  /-- SA.ADDW [Xa], 45_salsa20.md R242. -/
  | saAddw (a : XReg)
  /-- SA.CORE [Xd], [Xa], [Xb], [Xc], 45_salsa20.md R243. -/
  | saCore (d a b c : XReg)
  /-- SA.HCORE [Xd], [Xa], [Xb], [Xc], 45_salsa20.md R244. -/
  | saHcore (d a b c : XReg)
  /-- PL.INIT [Xa], 46_poly1305.md R257. -/
  | plInit (a : XReg)
  /-- PL.BLOCK [Xa], Xb, 46_poly1305.md R258. -/
  | plBlock (a b : XReg)
  /-- PL.FINAL [Xd], 46_poly1305.md R259. -/
  | plFinal (d : XReg)
  /-- PL.AUTH [Xd], [Xa], Xb, [Xc], 46_poly1305.md R260. -/
  | plAuth (d a b c : XReg)
  /-- PL.VERIFY Xd, [Xa], [Xb], Xc, [Xe], 46_poly1305.md R261. -/
  | plVerify (d a b c e : XReg)
  /-- S20.STREAM [Xd], Xa, [Xb], [Xc], 47_stream.md R281. -/
  | s20Stream (d a b c : XReg)
  /-- S20.XOR [Xd], [Xa], Xb, [Xc], [Xe], Xf, 47_stream.md R282. -/
  | s20Xor (d a b c e f : XReg)
  /-- XS.STREAM [Xd], Xa, [Xb], [Xc], 47_stream.md R283. -/
  | xsStream (d a b c : XReg)
  /-- XS.XOR [Xd], [Xa], Xb, [Xc], [Xe], Xf, 47_stream.md R284. -/
  | xsXor (d a b c e f : XReg)
deriving DecidableEq, Repr

/-- A command word before it is decoded: the seven fields of format C (30_encoding.md R101), as the numbers that stand in
them. A term whose numbers do not fit the fields, or that the opcode map does not admit, is ill-formed
(Sys2Proof/WellFormed.lean). -/
structure Fields where
  op : Nat
  d : Nat
  a : Nat
  b : Nat
  c : Nat
  e : Nat
  f : Nat
deriving DecidableEq, Repr

/-- Why a word is no command (30_encoding.md R106, R107). -/
inductive DecodeError where
  /-- The opcode byte is not assigned (R106). -/
  | illegalOpcode
  /-- The opcode is assigned and a must-be-zero field is not zero (R107). -/
  | reservedField
deriving DecidableEq, Repr

end Sys2Proof
end

