-- ==== Sys2Proof/WellFormed.lean ====
section
/-! DEFINITION. When the seven fields of a command word form a command (30_encoding.md R101, R106, R107), read from the
match and mask columns of the opcode map (R103), and when an instruction's register indices name registers (10_state.md
R23). The decoder of Sys2Proof/Decode.lean is written from the field columns of R103 and not from this file. -/

namespace Sys2Proof

/-- One row of the opcode map: its mnemonic and the "match" and "mask" columns of 30_encoding.md R103. -/
structure OpcodeRow where
  mnemonic : String
  pattern : Word
  mask : Word
deriving DecidableEq, Repr

/-- The opcode of a row: the top byte of its match column (30_encoding.md R101). -/
def OpcodeRow.opcode (r : OpcodeRow) : Nat := r.pattern.toNat / 2 ^ 24

/-- The rows of unit 0 (30_encoding.md R102, R103; 40_system.md). -/
def systemRows : List OpcodeRow := [
  ⟨"NOP", 0x00000000, 0xFFFFFFFF⟩,
  ⟨"WIPE", 0x01000000, 0xFFFFFFFF⟩]

/-- The rows of unit 1 (30_encoding.md R102, R103; 41_fe25519.md). -/
def multiplierRows : List OpcodeRow := [
  ⟨"FE.UNPACK", 0x10000000, 0xFF00FFFF⟩,
  ⟨"FE.PACK", 0x11000000, 0xFF00FFFF⟩,
  ⟨"FE.ADD", 0x12000000, 0xFF000FFF⟩,
  ⟨"FE.SUB", 0x13000000, 0xFF000FFF⟩,
  ⟨"FE.MUL", 0x14000000, 0xFF000FFF⟩,
  ⟨"FE.SQ", 0x15000000, 0xFF00FFFF⟩,
  ⟨"FE.CMOV", 0x16000000, 0xFF000FFF⟩,
  ⟨"FE.ISEQ", 0x18000000, 0xFF000FFF⟩,
  ⟨"FE.PARITY", 0x19000000, 0xFF00FFFF⟩]

/-- The rows of unit 2 (30_encoding.md R102, R103; 41_fe25519.md). -/
def invertRows : List OpcodeRow := [
  ⟨"FE.INV", 0x20000000, 0xFF00FFFF⟩,
  ⟨"FE.POW2523", 0x21000000, 0xFF00FFFF⟩]

/-- The rows of unit 3 (30_encoding.md R102, R103; 42_sc25519.md). -/
def scalarRows : List OpcodeRow := [
  ⟨"SC.FROM32", 0x30000000, 0xFF00FFFF⟩,
  ⟨"SC.FROM64", 0x31000000, 0xFF00FFFF⟩,
  ⟨"SC.TO32", 0x32000000, 0xFF00FFFF⟩,
  ⟨"SC.ADD", 0x33000000, 0xFF000FFF⟩,
  ⟨"SC.MUL", 0x34000000, 0xFF000FFF⟩,
  ⟨"SC.WINDOW3", 0x35000000, 0xFF00FFFF⟩,
  ⟨"SC.INTLV2", 0x36000000, 0xFF000FFF⟩]

/-- The rows of unit 4 (30_encoding.md R102, R103; 43_ge25519.md). -/
def pointRows : List OpcodeRow := [
  ⟨"GE.UNPACKNEG", 0x40000000, 0xFF000FFF⟩,
  ⟨"GE.PACK", 0x41000000, 0xFF00FFFF⟩,
  ⟨"GE.ADD", 0x42000000, 0xFF000FFF⟩,
  ⟨"GE.DBL", 0x43000000, 0xFF00FFFF⟩,
  ⟨"GE.MADD", 0x44000000, 0xFF0000FF⟩,
  ⟨"GE.SMULBASE", 0x45000000, 0xFF00FFFF⟩,
  ⟨"GE.DSMUL", 0x46000000, 0xFF00000F⟩]

/-- The rows of unit 5 (30_encoding.md R102, R103; 44_curve25519.md). -/
def ladderRows : List OpcodeRow := [
  ⟨"X.LADDER", 0x50000000, 0xFF000FFF⟩,
  ⟨"X.BASE", 0x51000000, 0xFF00FFFF⟩]

/-- The rows of unit 6 (30_encoding.md R102, R103; 45_salsa20.md). -/
def salsaRows : List OpcodeRow := [
  ⟨"SA.LDW", 0x60000000, 0xFFF000FF⟩,
  ⟨"SA.STW", 0x61000000, 0xFF0FFFFF⟩,
  ⟨"SA.QR", 0x62000000, 0xFF0000FF⟩,
  ⟨"SA.DROUND", 0x63000000, 0xFFFFFFFF⟩,
  ⟨"SA.ADDW", 0x64000000, 0xFFF0FFFF⟩,
  ⟨"SA.CORE", 0x65000000, 0xFF0000FF⟩,
  ⟨"SA.HCORE", 0x66000000, 0xFF0000FF⟩]

/-- The rows of unit 7 (30_encoding.md R102, R103; 46_poly1305.md). -/
def polyRows : List OpcodeRow := [
  ⟨"PL.INIT", 0x70000000, 0xFFF0FFFF⟩,
  ⟨"PL.BLOCK", 0x71000000, 0xFFF00FFF⟩,
  ⟨"PL.FINAL", 0x72000000, 0xFF0FFFFF⟩,
  ⟨"PL.AUTH", 0x73000000, 0xFF0000FF⟩,
  ⟨"PL.VERIFY", 0x74000000, 0xFF00000F⟩]

/-- The rows of unit 8 (30_encoding.md R102, R103; 47_stream.md). -/
def streamRows : List OpcodeRow := [
  ⟨"S20.STREAM", 0x80000000, 0xFF0000FF⟩,
  ⟨"S20.XOR", 0x81000000, 0xFF000000⟩,
  ⟨"XS.STREAM", 0x82000000, 0xFF0000FF⟩,
  ⟨"XS.XOR", 0x83000000, 0xFF000000⟩]

/-- The opcode map, 45 rows (30_encoding.md R103). -/
def opcodeTable : List OpcodeRow :=
  systemRows ++ multiplierRows ++ invertRows ++ scalarRows ++ pointRows ++ ladderRows ++ salsaRows ++ polyRows ++ streamRows

/-- The word of the seven fields, the formula of 30_encoding.md R101. -/
def Fields.number (g : Fields) : Nat :=
  g.op * 2 ^ 24 + g.d * 2 ^ 20 + g.a * 2 ^ 16 + g.b * 2 ^ 12 + g.c * 2 ^ 8 + g.e * 2 ^ 4 + g.f

/-- Every number fits its field: 8 bits for op, 4 for the others (30_encoding.md R101). -/
def Fields.fits (g : Fields) : Bool :=
  decide (g.op < 256) && [g.d, g.a, g.b, g.c, g.e, g.f].all (fun n => decide (n < 16))

/-- The opcode is one of the 45 values of the map (30_encoding.md R106). -/
def Fields.assigned (g : Fields) : Bool := opcodeTable.any (fun r => r.opcode == g.op)

/-- Every must-be-zero field of the opcode's row is zero: (w AND mask) = match (60_exceptions.md R345). -/
def Fields.reservedZero (g : Fields) : Bool :=
  opcodeTable.all (fun r => r.opcode != g.op || (BitVec.ofNat 32 g.number &&& r.mask) == r.pattern)

/-- The three checks together: these fields are the encoding of a command (30_encoding.md R103). -/
def Fields.wellFormed (g : Fields) : Bool := g.fits && g.assigned && g.reservedZero

/-- The register and word indices an instruction names, in field order (30_encoding.md R103). -/
def Instr.indices : Instr → List Nat
  | .nop => []
  | .wipe => []
  | .feUnpack d a => [d, a]
  | .fePack d a => [d, a]
  | .feAdd d a b => [d, a, b]
  | .feSub d a b => [d, a, b]
  | .feMul d a b => [d, a, b]
  | .feSq d a => [d, a]
  | .feCmov d a b => [d, a, b]
  | .feIseq d a b => [d, a, b]
  | .feParity d a => [d, a]
  | .feInv d a => [d, a]
  | .fePow2523 d a => [d, a]
  | .scFrom32 d a => [d, a]
  | .scFrom64 d a => [d, a]
  | .scTo32 d a => [d, a]
  | .scAdd d a b => [d, a, b]
  | .scMul d a b => [d, a, b]
  | .scWindow3 d a => [d, a]
  | .scIntlv2 d a b => [d, a, b]
  | .geUnpackneg d a b => [d, a, b]
  | .gePack d a => [d, a]
  | .geAdd d a b => [d, a, b]
  | .geDbl d a => [d, a]
  | .geMadd d a b c => [d, a, b, c]
  | .geSmulbase d a => [d, a]
  | .geDsmul d a b c e => [d, a, b, c, e]
  | .xLadder d a b => [d, a, b]
  | .xBase d a => [d, a]
  | .saLdw a b c => [a, b, c]
  | .saStw d => [d]
  | .saQr i0 i1 i2 i3 => [i0, i1, i2, i3]
  | .saDround => []
  | .saAddw a => [a]
  | .saCore d a b c => [d, a, b, c]
  | .saHcore d a b c => [d, a, b, c]
  | .plInit a => [a]
  | .plBlock a b => [a, b]
  | .plFinal d => [d]
  | .plAuth d a b c => [d, a, b, c]
  | .plVerify d a b c e => [d, a, b, c, e]
  | .s20Stream d a b c => [d, a, b, c]
  | .s20Xor d a b c e f => [d, a, b, c, e, f]
  | .xsStream d a b c => [d, a, b, c]
  | .xsXor d a b c e f => [d, a, b, c, e, f]

/-- Every index names one of the 16 entries of its file (10_state.md R23: no index is out of range). The types of `Instr`
already say so; the check is the spec's sentence. -/
def Instr.wellFormed (i : Instr) : Bool := i.indices.all (fun n => decide (n < 16))

end Sys2Proof
end

