-- ==== Sys2Proof/Decode.lean ====
section
/-! DEFINITION. The decoder and the encoder of command words (30_encoding.md R100 to R107). The decoder is total: a word is
a command, or is rejected by name as an illegal opcode or a nonzero reserved field. -/

namespace Sys2Proof

/-- The seven fields of a command word (30_encoding.md R101). -/
def fieldsOf (w : Word) : Fields :=
  { op := w.toNat / 2 ^ 24
    d := w.toNat / 2 ^ 20 % 16
    a := w.toNat / 2 ^ 16 % 16
    b := w.toNat / 2 ^ 12 % 16
    c := w.toNat / 2 ^ 8 % 16
    e := w.toNat / 2 ^ 4 % 16
    f := w.toNat % 16 }

/-- A 4-bit field as an index (10_state.md R23). -/
def index (n : Nat) : Fin 16 := Fin.ofNat 16 n

/-- The instruction `i`, where the must-be-zero fields are all zero (30_encoding.md R107). -/
def ifZero (fields : List Nat) (i : Instr) : Except DecodeError Instr :=
  if fields.all (fun n => n == 0) then .ok i else .error .reservedField

/-- The command of the seven fields: the opcode and field columns of 30_encoding.md R103, with the illegal opcodes of R106
and the reserved fields of R107. -/
def decodeFields (g : Fields) : Except DecodeError Instr :=
  match g.op with
  | 0x00 => ifZero [g.d, g.a, g.b, g.c, g.e, g.f] .nop
  | 0x01 => ifZero [g.d, g.a, g.b, g.c, g.e, g.f] .wipe
  | 0x10 => ifZero [g.b, g.c, g.e, g.f] (.feUnpack (index g.d) (index g.a))
  | 0x11 => ifZero [g.b, g.c, g.e, g.f] (.fePack (index g.d) (index g.a))
  | 0x12 => ifZero [g.c, g.e, g.f] (.feAdd (index g.d) (index g.a) (index g.b))
  | 0x13 => ifZero [g.c, g.e, g.f] (.feSub (index g.d) (index g.a) (index g.b))
  | 0x14 => ifZero [g.c, g.e, g.f] (.feMul (index g.d) (index g.a) (index g.b))
  | 0x15 => ifZero [g.b, g.c, g.e, g.f] (.feSq (index g.d) (index g.a))
  | 0x16 => ifZero [g.c, g.e, g.f] (.feCmov (index g.d) (index g.a) (index g.b))
  | 0x18 => ifZero [g.c, g.e, g.f] (.feIseq (index g.d) (index g.a) (index g.b))
  | 0x19 => ifZero [g.b, g.c, g.e, g.f] (.feParity (index g.d) (index g.a))
  | 0x20 => ifZero [g.b, g.c, g.e, g.f] (.feInv (index g.d) (index g.a))
  | 0x21 => ifZero [g.b, g.c, g.e, g.f] (.fePow2523 (index g.d) (index g.a))
  | 0x30 => ifZero [g.b, g.c, g.e, g.f] (.scFrom32 (index g.d) (index g.a))
  | 0x31 => ifZero [g.b, g.c, g.e, g.f] (.scFrom64 (index g.d) (index g.a))
  | 0x32 => ifZero [g.b, g.c, g.e, g.f] (.scTo32 (index g.d) (index g.a))
  | 0x33 => ifZero [g.c, g.e, g.f] (.scAdd (index g.d) (index g.a) (index g.b))
  | 0x34 => ifZero [g.c, g.e, g.f] (.scMul (index g.d) (index g.a) (index g.b))
  | 0x35 => ifZero [g.b, g.c, g.e, g.f] (.scWindow3 (index g.d) (index g.a))
  | 0x36 => ifZero [g.c, g.e, g.f] (.scIntlv2 (index g.d) (index g.a) (index g.b))
  | 0x40 => ifZero [g.c, g.e, g.f] (.geUnpackneg (index g.d) (index g.a) (index g.b))
  | 0x41 => ifZero [g.b, g.c, g.e, g.f] (.gePack (index g.d) (index g.a))
  | 0x42 => ifZero [g.c, g.e, g.f] (.geAdd (index g.d) (index g.a) (index g.b))
  | 0x43 => ifZero [g.b, g.c, g.e, g.f] (.geDbl (index g.d) (index g.a))
  | 0x44 => ifZero [g.e, g.f] (.geMadd (index g.d) (index g.a) (index g.b) (index g.c))
  | 0x45 => ifZero [g.b, g.c, g.e, g.f] (.geSmulbase (index g.d) (index g.a))
  | 0x46 => ifZero [g.f] (.geDsmul (index g.d) (index g.a) (index g.b) (index g.c) (index g.e))
  | 0x50 => ifZero [g.c, g.e, g.f] (.xLadder (index g.d) (index g.a) (index g.b))
  | 0x51 => ifZero [g.b, g.c, g.e, g.f] (.xBase (index g.d) (index g.a))
  | 0x60 => ifZero [g.d, g.e, g.f] (.saLdw (index g.a) (index g.b) (index g.c))
  | 0x61 => ifZero [g.a, g.b, g.c, g.e, g.f] (.saStw (index g.d))
  | 0x62 => ifZero [g.e, g.f] (.saQr (index g.d) (index g.a) (index g.b) (index g.c))
  | 0x63 => ifZero [g.d, g.a, g.b, g.c, g.e, g.f] .saDround
  | 0x64 => ifZero [g.d, g.b, g.c, g.e, g.f] (.saAddw (index g.a))
  | 0x65 => ifZero [g.e, g.f] (.saCore (index g.d) (index g.a) (index g.b) (index g.c))
  | 0x66 => ifZero [g.e, g.f] (.saHcore (index g.d) (index g.a) (index g.b) (index g.c))
  | 0x70 => ifZero [g.d, g.b, g.c, g.e, g.f] (.plInit (index g.a))
  | 0x71 => ifZero [g.d, g.c, g.e, g.f] (.plBlock (index g.a) (index g.b))
  | 0x72 => ifZero [g.a, g.b, g.c, g.e, g.f] (.plFinal (index g.d))
  | 0x73 => ifZero [g.e, g.f] (.plAuth (index g.d) (index g.a) (index g.b) (index g.c))
  | 0x74 => ifZero [g.f] (.plVerify (index g.d) (index g.a) (index g.b) (index g.c) (index g.e))
  | 0x80 => ifZero [g.e, g.f] (.s20Stream (index g.d) (index g.a) (index g.b) (index g.c))
  | 0x81 => ifZero [] (.s20Xor (index g.d) (index g.a) (index g.b) (index g.c) (index g.e) (index g.f))
  | 0x82 => ifZero [g.e, g.f] (.xsStream (index g.d) (index g.a) (index g.b) (index g.c))
  | 0x83 => ifZero [] (.xsXor (index g.d) (index g.a) (index g.b) (index g.c) (index g.e) (index g.f))
  | _ => .error .illegalOpcode

/-- The decoder (30_encoding.md R100 to R107; steps 1 and 2 of R108). -/
def decode (w : Word) : Except DecodeError Instr := decodeFields (fieldsOf w)

/-- The fields of an instruction's word (30_encoding.md R103). -/
def fieldsOfInstr : Instr → Fields
  | .nop => ⟨0x00, 0, 0, 0, 0, 0, 0⟩
  | .wipe => ⟨0x01, 0, 0, 0, 0, 0, 0⟩
  | .feUnpack d a => ⟨0x10, d, a, 0, 0, 0, 0⟩
  | .fePack d a => ⟨0x11, d, a, 0, 0, 0, 0⟩
  | .feAdd d a b => ⟨0x12, d, a, b, 0, 0, 0⟩
  | .feSub d a b => ⟨0x13, d, a, b, 0, 0, 0⟩
  | .feMul d a b => ⟨0x14, d, a, b, 0, 0, 0⟩
  | .feSq d a => ⟨0x15, d, a, 0, 0, 0, 0⟩
  | .feCmov d a b => ⟨0x16, d, a, b, 0, 0, 0⟩
  | .feIseq d a b => ⟨0x18, d, a, b, 0, 0, 0⟩
  | .feParity d a => ⟨0x19, d, a, 0, 0, 0, 0⟩
  | .feInv d a => ⟨0x20, d, a, 0, 0, 0, 0⟩
  | .fePow2523 d a => ⟨0x21, d, a, 0, 0, 0, 0⟩
  | .scFrom32 d a => ⟨0x30, d, a, 0, 0, 0, 0⟩
  | .scFrom64 d a => ⟨0x31, d, a, 0, 0, 0, 0⟩
  | .scTo32 d a => ⟨0x32, d, a, 0, 0, 0, 0⟩
  | .scAdd d a b => ⟨0x33, d, a, b, 0, 0, 0⟩
  | .scMul d a b => ⟨0x34, d, a, b, 0, 0, 0⟩
  | .scWindow3 d a => ⟨0x35, d, a, 0, 0, 0, 0⟩
  | .scIntlv2 d a b => ⟨0x36, d, a, b, 0, 0, 0⟩
  | .geUnpackneg d a b => ⟨0x40, d, a, b, 0, 0, 0⟩
  | .gePack d a => ⟨0x41, d, a, 0, 0, 0, 0⟩
  | .geAdd d a b => ⟨0x42, d, a, b, 0, 0, 0⟩
  | .geDbl d a => ⟨0x43, d, a, 0, 0, 0, 0⟩
  | .geMadd d a b c => ⟨0x44, d, a, b, c, 0, 0⟩
  | .geSmulbase d a => ⟨0x45, d, a, 0, 0, 0, 0⟩
  | .geDsmul d a b c e => ⟨0x46, d, a, b, c, e, 0⟩
  | .xLadder d a b => ⟨0x50, d, a, b, 0, 0, 0⟩
  | .xBase d a => ⟨0x51, d, a, 0, 0, 0, 0⟩
  | .saLdw a b c => ⟨0x60, 0, a, b, c, 0, 0⟩
  | .saStw d => ⟨0x61, d, 0, 0, 0, 0, 0⟩
  | .saQr i0 i1 i2 i3 => ⟨0x62, i0, i1, i2, i3, 0, 0⟩
  | .saDround => ⟨0x63, 0, 0, 0, 0, 0, 0⟩
  | .saAddw a => ⟨0x64, 0, a, 0, 0, 0, 0⟩
  | .saCore d a b c => ⟨0x65, d, a, b, c, 0, 0⟩
  | .saHcore d a b c => ⟨0x66, d, a, b, c, 0, 0⟩
  | .plInit a => ⟨0x70, 0, a, 0, 0, 0, 0⟩
  | .plBlock a b => ⟨0x71, 0, a, b, 0, 0, 0⟩
  | .plFinal d => ⟨0x72, d, 0, 0, 0, 0, 0⟩
  | .plAuth d a b c => ⟨0x73, d, a, b, c, 0, 0⟩
  | .plVerify d a b c e => ⟨0x74, d, a, b, c, e, 0⟩
  | .s20Stream d a b c => ⟨0x80, d, a, b, c, 0, 0⟩
  | .s20Xor d a b c e f => ⟨0x81, d, a, b, c, e, f⟩
  | .xsStream d a b c => ⟨0x82, d, a, b, c, 0, 0⟩
  | .xsXor d a b c e f => ⟨0x83, d, a, b, c, e, f⟩

/-- The encoder: the word of an instruction, by the formula of 30_encoding.md R101. -/
def encode (i : Instr) : Word := BitVec.ofNat 32 (fieldsOfInstr i).number

/-- The instruction the decoder reads from an instruction whose `nbits` bits are `w`, every bit above them zero. A command
is one 32-bit word (30_encoding.md R100), so a number that does not fit 32 bits is none. -/
def decodeTableWord (nbits w : Nat) : Option Instr :=
  if w % 2 ^ nbits < 2 ^ 32 then (decode (BitVec.ofNat 32 (w % 2 ^ nbits))).toOption else none

end Sys2Proof
end

