-- ==== Sys2Proof/Machine/Bytes.lean ====
section
/-! DEFINITION. Byte strings and integers (00_scope.md R11, R12; 20_memory.md R71): everything the block reads or writes is
little-endian. -/

namespace Sys2Proof.Machine

/-- `LE(s)`, the little-endian value of a byte string (00_scope.md R11). -/
def leVal : List Byte → Nat
  | [] => 0
  | b :: bs => b.toNat + 256 * leVal bs

/-- `LEn(v)`, the `n` bytes with little-endian value `v`, for `v < 2^(8n)` (00_scope.md R11). -/
def leBytes : Nat → Nat → List Byte
  | 0, _ => []
  | n + 1, v => BitVec.ofNat 8 v :: leBytes n (v / 256)

/-- `signed8(b)` (00_scope.md R12). -/
def signed8 (b : Byte) : Int := if b.toNat < 128 then b.toNat else (b.toNat : Int) - 256

/-- `LE32W(b, i)`, the little-endian word at bytes 4i .. 4i+3 (45_salsa20.md, section 1). -/
def leWord (bs : List Byte) (i : Nat) : Word := BitVec.ofNat 32 (leVal ((bs.drop (4 * i)).take 4))

/-- The four little-endian bytes of a word (45_salsa20.md R239). -/
def wordBytes (w : Word) : List Byte := leBytes 4 w.toNat

/-- `rotl32(v, c)` for 0 < c < 32 (00_scope.md R12). -/
def rotl (v : Word) (c : Nat) : Word := (v <<< c) + (v >>> (32 - c))

end Sys2Proof.Machine
end

