-- ==== Sys2Proof/Config.lean ====
section
/-! DEFINITION. What an instance of the block fixes (the open parameters of 00_scope.md R9) and the model's free values. The
fixed constants of R9 are the ROM, Sys2Proof/Machine/Rom.lean. -/

namespace Sys2Proof

/-- The two open parameters of 00_scope.md R9 that are plain values. An instance has them for good: no step changes them.
They stand in the state, so that a statement over every state is a statement over every instance (log 3). -/
structure Params where
  /-- `DMEM_BYTES`, the size of the data memory, 1024 .. 2^31 (92_eei_decisions.md D7). -/
  dmemBytes : Nat
  /-- `X25519_MASK_U255`, whether X.LADDER clears bit 255 of the point string (92_eei_decisions.md D22). -/
  x25519MaskU255 : Bool
deriving DecidableEq, Repr

/-- The default of 00_scope.md R9: 65536 bytes, bit 255 not masked. -/
def Params.standard : Params := { dmemBytes := 65536, x25519MaskU255 := false }

/-- The range of the open parameters (00_scope.md R9). -/
def Params.wf (c : Params) : Bool := decide (1024 ≤ c.dmemBytes) && decide (c.dmemBytes ≤ 2 ^ 31)

/-- FREE VALUE (log 4): `DMEM_RESET` of 00_scope.md R9, the byte that the `k`-th hardware reset leaves at an address
(70_reset_and_hazards.md R383: "each byte has some value in 0..255 which the model draws arbitrarily"). It has no body. -/
opaque Config.dmemReset (k address : Nat) : Byte

/-- FREE VALUE (log 2): whether a read that is never held (20_memory.md R83) and that waits while a command runs is served
before the command ends. No rule says how long a command takes (70_reset_and_hazards.md R390). It has no body. -/
opaque Config.readServedWhileBusy (k : Nat) : Bool

end Sys2Proof
end

