-- ==== Sys2Proof/Machine/State.lean ====
section
/-! DEFINITION. The state of the block (10_state.md R21), as plain data, and the machine right after reset
(70_reset_and_hazards.md R380 to R383). Fields carry the spec's names. The last four fields are the model's own. -/

namespace Sys2Proof.Machine

/-- The six fault causes (60_exceptions.md R341). -/
inductive Cause where
  | illegalOpcode
  | reservedField
  | uninit
  | addrRange
  | badLength
  | badValue
deriving DecidableEq, Repr

/-- A typed register: its value and its valid bit (10_state.md R27). -/
structure Slot (α : Type) where
  valid : Bool
  value : α
deriving DecidableEq, Repr

/-- An affine point, the value of a P register (10_state.md R30). Coordinates are integers; those of a valid register lie in
[0, p). -/
structure Point where
  x : Nat
  y : Nat
deriving DecidableEq, Repr

/-- What a byte of DMEM that nothing has written since the last reset or WIPE reads as. -/
inductive Background where
  /-- Zero: nothing written since a WIPE (40_system.md R132). -/
  | zeros
  /-- The `k`-th draw: nothing written since the hardware reset that took it (70_reset_and_hazards.md R383; log 4). -/
  | drawn (k : Nat)
deriving DecidableEq, Repr

/-- The data memory (20_memory.md R70): the bytes written since the last reset or WIPE, by rising address, over a
background. -/
structure Memory where
  background : Background
  cells : List Host.Cell
deriving DecidableEq, Repr

/-- `CTRL` (10_state.md R48): the two interrupt enables; the other bits are hardwired to 0. -/
structure Ctrl where
  ieDone : Bool
  ieErr : Bool
deriving DecidableEq, Repr

/-- `STATUS` (10_state.md R49): the three status bits; the other bits read as 0. -/
structure Status where
  busy : Bool
  done : Bool
  err : Bool
deriving DecidableEq, Repr

/-- The width of a host access (20_memory.md R73). -/
inductive Width where
  | byte
  | half
  | word
deriving DecidableEq, Repr

/-- A host access through the slave port, at an offset from the block's base (20_memory.md R73, R76, R81). A write takes the
low bits of `data` that its width holds. -/
inductive Access where
  | read (width : Width) (offset : Nat)
  | write (width : Width) (offset : Nat) (data : Word)
deriving DecidableEq, Repr

/-- What the outside does to the block: a host access, or the hardware reset input (70_reset_and_hazards.md R380). -/
inductive Input where
  | access (a : Access)
  | reset
deriving DecidableEq, Repr

/-- What the slave port last answered the host (log 10). -/
inductive Answer where
  /-- Nothing has been answered since reset. -/
  | none
  /-- A read returned this value; a byte or half-word stands in the low bits. -/
  | data (v : Word)
  /-- A write was completed. -/
  | done
  /-- A bus error (20_memory.md R76). -/
  | busError
deriving DecidableEq, Repr

/-- The state (10_state.md R21). -/
structure State where
  /-- The instance's open parameters (00_scope.md R9); no step changes them. -/
  params : Params
  /-- `X[0..15]`, general registers (10_state.md R22). -/
  X : Vector Word 16
  /-- `F[0..15]` with `FV[0..15]`, field elements in [0, p) (10_state.md R28). -/
  F : Vector (Slot Nat) 16
  /-- `S[0..15]` with `SV[0..15]`, scalars in [0, l) (10_state.md R29). -/
  S : Vector (Slot Nat) 16
  /-- `P[0..15]` with `PVd[0..15]`, points of E (10_state.md R30). -/
  P : Vector (Slot Point) 16
  /-- `W[0..15]`, Salsa20 working words (10_state.md R32). -/
  W : Vector Word 16
  /-- `WV`, the valid bit of the working words (10_state.md R32). -/
  WV : Bool
  /-- `PH`, Poly1305 accumulator in [0, 2^130 - 5) (10_state.md R36). -/
  PH : Nat
  /-- `PR`, Poly1305 multiplier (10_state.md R36). -/
  PR : BitVec 128
  /-- `PS`, Poly1305 pad (10_state.md R36). -/
  PS : BitVec 128
  /-- `PV`, the valid bit of the Poly1305 state (10_state.md R36). -/
  PV : Bool
  /-- `CTRL` (10_state.md R48). -/
  CTRL : Ctrl
  /-- `STATUS` (10_state.md R49). -/
  STATUS : Status
  /-- `CAUSE` (10_state.md R50). -/
  CAUSE : Word
  /-- `ERRCMD` (10_state.md R50). -/
  ERRCMD : Word
  /-- `CUR`, the command being executed while BUSY = 1 (10_state.md R51). -/
  CUR : Word
  /-- `DMEM` (10_state.md R40). -/
  DMEM : Memory
  /-- The model's own: what the outside does next, oldest first (log 1). -/
  inputs : List Input
  /-- The model's own: the last answer of the slave port (log 10). -/
  answer : Answer
  /-- The model's own: how many free values have been taken (log 4). -/
  draws : Nat
deriving DecidableEq, Repr

/-- Why the machine stops with a fault: never. Every fault of the spec is a fault record in a next state (60_exceptions.md
R343), and an illegal host access is answered with a bus error (20_memory.md R76), so the type has no constructor (log 18). -/
inductive Fault
deriving DecidableEq, Repr

/-- Why the machine refuses. -/
inductive Refusal where
  /-- Raised by an arm of `exec` whose command has no meaning in the model; no arm does. Safe: nothing follows about the
  command. -/
  | notModelled (mnemonic : String)
deriving DecidableEq, Repr

/-- An invalid register: valid bit 0, content zero (10_state.md R27). -/
def Slot.invalid (zero : α) : Slot α := { valid := false, value := zero }

/-- The zero content of an invalid P register (70_reset_and_hazards.md R382). -/
def Point.zero : Point := { x := 0, y := 0 }

/-- The block right after a hardware reset (70_reset_and_hazards.md R380 to R383): an instance with parameters `c`, whose
DMEM holds the draw `k`, while `later` is what the outside does afterwards. -/
def State.afterReset (c : Params) (k : Nat) (later : List Input) : State :=
  { params := c
    X := Vector.replicate 16 0
    F := Vector.replicate 16 (Slot.invalid 0)
    S := Vector.replicate 16 (Slot.invalid 0)
    P := Vector.replicate 16 (Slot.invalid Point.zero)
    W := Vector.replicate 16 0
    WV := false
    PH := 0
    PR := 0
    PS := 0
    PV := false
    CTRL := { ieDone := false, ieErr := false }
    STATUS := { busy := false, done := false, err := false }
    CAUSE := 0
    ERRCMD := 0
    CUR := 0
    DMEM := { background := .drawn k, cells := [] }
    inputs := later
    answer := .none
    draws := k + 1 }

/-- The machine right after power-on: the default instance (00_scope.md R9), the first draw of DMEM, and no host action yet
(log 1, log 3, log 4). -/
def State.reset : State := State.afterReset Params.standard 0 []

end Sys2Proof.Machine
end

