-- ==== Sys2Proof/Machine/Flags.lean ====
section
/-! DEFINITION. The words the control and status registers read as (10_state.md R46, R48, R49; 60_exceptions.md R341), the
truth values that predicate commands write (10_state.md R25) and the interrupt output (60_exceptions.md R352). The block has
no condition codes (10_state.md R25). -/

namespace Sys2Proof.Machine

/-- 0 or 1 (10_state.md R22, R25: a predicate result is 0 or 1). -/
def boolWord (b : Bool) : Word := if b then 1 else 0

/-- The code of a fault cause, zero-extended to 32 bits (60_exceptions.md R341, R343). -/
def Cause.code : Cause → Word
  | .illegalOpcode => 1
  | .reservedField => 2
  | .uninit => 3
  | .addrRange => 4
  | .badLength => 5
  | .badValue => 6

/-- What `CTRL` reads as: IE_DONE in bit 0, IE_ERR in bit 1, the rest 0 (10_state.md R48). -/
def Ctrl.word (c : Ctrl) : Word := boolWord c.ieDone + 2 * boolWord c.ieErr

/-- What a write of `v` leaves in `CTRL`: bits 1:0 are stored, bits 31:2 are hardwired to 0 (10_state.md R48). -/
def Ctrl.ofWord (v : Word) : Ctrl := { ieDone := v.getLsbD 0, ieErr := v.getLsbD 1 }

/-- What `STATUS` reads as: BUSY in bit 0, DONE in bit 1, ERR in bit 2, the rest 0 (10_state.md R46, R49). -/
def Status.word (t : Status) : Word := boolWord t.busy + 2 * boolWord t.done + 4 * boolWord t.err

/-- The interrupt output, a level (60_exceptions.md R352). -/
def State.irq (s : State) : Bool := (s.STATUS.done && s.CTRL.ieDone) || (s.STATUS.err && s.CTRL.ieErr)

end Sys2Proof.Machine
end

