-- ==== Sys2Proof/Machine/Ops.lean ====
section
/-! DEFINITION. The named operations over memory and registers, the one operation by which a command completes
(10_state.md R52), the one by which it faults (60_exceptions.md R343, R353) and the one by which the host returns from a
fault (60_exceptions.md R355). -/

namespace Sys2Proof.Machine

/-- What an unlisted byte reads as: zero after a WIPE (40_system.md R132), the free value of the draw after a reset
(70_reset_and_hazards.md R383; log 4). -/
def Background.read : Background → Nat → Byte
  | .zeros, _ => 0
  | .drawn k, a => Config.dmemReset k a

/-- The listed byte at an address. -/
def lookupCell : List Host.Cell → Nat → Option Byte
  | [], _ => none
  | (a', b) :: cs, a => if a = a' then some b else lookupCell cs a

/-- The list without an address. -/
def eraseCell : List Host.Cell → Nat → List Host.Cell
  | [], _ => []
  | (a', b) :: cs, a => if a = a' then eraseCell cs a else (a', b) :: eraseCell cs a

/-- The list with the byte `b` at the address `a`, addresses still rising. -/
def insertCell : List Host.Cell → Nat → Byte → List Host.Cell
  | [], a, b => [(a, b)]
  | (a', b') :: cs, a, b =>
    if a < a' then (a, b) :: (a', b') :: cs
    else if a = a' then (a, b) :: cs
    else (a', b') :: insertCell cs a b

/-- The byte at an address of DMEM (20_memory.md R79: the last value written by the host or by a command). -/
def Memory.read (m : Memory) (a : Nat) : Byte := (lookupCell m.cells a).getD (m.background.read a)

/-- Write one byte. Over the zero background the byte zero is not listed, so that equal memories are equal data. -/
def Memory.write (m : Memory) (a : Nat) (b : Byte) : Memory :=
  { m with cells := if m.background = .zeros ∧ b = 0 then eraseCell m.cells a else insertCell m.cells a b }

/-- `n` bytes from address `a`, the lowest address first (00_scope.md R13, MemRead without its check). -/
def Memory.readBytes (m : Memory) : Nat → Nat → List Byte
  | _, 0 => []
  | a, n + 1 => m.read a :: m.readBytes (a + 1) n

/-- Write a byte string from address `a` upward (00_scope.md R13, MemWrite without its check). -/
def Memory.writeBytes (m : Memory) : Nat → List Byte → Memory
  | _, [] => m
  | a, b :: bs => (m.write a b).writeBytes (a + 1) bs

/-- DMEM after WIPE: every byte 0 (40_system.md R132). -/
def Memory.wiped : Memory := { background := .zeros, cells := [] }

/-- Addresses strictly rise. -/
def risingCells : List Host.Cell → Bool
  | [] => true
  | [_] => true
  | (a, _) :: (a', b') :: cs => decide (a < a') && risingCells ((a', b') :: cs)

/-- The canonical form: addresses strictly rise and, over the zero background, no listed byte is zero. Over a drawn
background no value is known for an unlisted byte, so nothing is left out there (log 5). -/
def Memory.wf (m : Memory) : Bool :=
  risingCells m.cells && (decide (m.background ≠ .zeros) || m.cells.all (fun c => decide (c.2 ≠ 0)))

/-- `X[i] <- v` (00_scope.md R13). -/
def State.writeX (s : State) (i : XReg) (v : Word) : State := { s with X := s.X.set i v }

/-- `F[i] <- v`: the register and its valid bit (00_scope.md R13). -/
def State.writeF (s : State) (i : FReg) (v : Nat) : State := { s with F := s.F.set i ⟨true, v⟩ }

/-- `S[i] <- v`: the register and its valid bit (00_scope.md R13). -/
def State.writeS (s : State) (i : SReg) (v : Nat) : State := { s with S := s.S.set i ⟨true, v⟩ }

/-- `P[i] <- v`: the register and its valid bit (00_scope.md R13). -/
def State.writeP (s : State) (i : PReg) (v : Point) : State := { s with P := s.P.set i ⟨true, v⟩ }

/-- `invalidate P[i]` (00_scope.md R13). -/
def State.invalidateP (s : State) (i : PReg) : State := { s with P := s.P.set i (Slot.invalid Point.zero) }

/-- `W[0..15] <- v`, `WV <- 1` (10_state.md R35). -/
def State.writeW (s : State) (v : Vector Word 16) : State := { s with W := v, WV := true }

/-- `invalidate W` (10_state.md R35). -/
def State.invalidateW (s : State) : State := { s with W := Vector.replicate 16 0, WV := false }

/-- `PH <- h` (46_poly1305.md R258). -/
def State.writePH (s : State) (h : Nat) : State := { s with PH := h }

/-- `PR`, `PS`, `PH` and `PV <- 1` (46_poly1305.md R257). -/
def State.writePoly (s : State) (h : Nat) (r pad : BitVec 128) : State :=
  { s with PH := h, PR := r, PS := pad, PV := true }

/-- `invalidate poly` (10_state.md R38). -/
def State.invalidatePoly (s : State) : State := { s with PH := 0, PR := 0, PS := 0, PV := false }

/-- MemWrite of a byte string whose range has been checked (00_scope.md R13). -/
def State.writeMem (s : State) (a : Nat) (bs : List Byte) : State := { s with DMEM := s.DMEM.writeBytes a bs }

/-- DMEM replaced, as the stream loop leaves it (47_stream.md R280). -/
def State.withMem (s : State) (m : Memory) : State := { s with DMEM := m }

/-- The value of an X register as an unsigned integer: an address, a length, a position (30_encoding.md R105). -/
def State.xVal (s : State) (i : XReg) : Nat := s.X[i].toNat

/-- Acceptance of a command word: `CUR <- w`, `BUSY <- 1`, `DONE <- 0` (10_state.md R52, case (c)). -/
def State.accept (s : State) (w : Word) : State :=
  { s with CUR := w, STATUS := { s.STATUS with busy := true, done := false } }

/-- Completion: `BUSY <- 0`, `DONE <- 1` (30_encoding.md R108, step 8; 10_state.md R52). -/
def State.complete (s : State) : State := { s with STATUS := { s.STATUS with busy := false, done := true } }

/-- TAKING A FAULT, the whole of it: the fault record (60_exceptions.md R343, R353). Nothing else changes. -/
def State.takeFault (s : State) (c : Cause) : State :=
  { s with
    STATUS := { s.STATUS with busy := false, err := true }
    CAUSE := c.code
    ERRCMD := s.CUR }

/-- RETURNING FROM A FAULT: what the host's write of `v` to `CLR` does (60_exceptions.md R355; 10_state.md R46). -/
def State.writeClr (s : State) (v : Word) : State :=
  { s with
    STATUS := { s.STATUS with
      done := s.STATUS.done && !v.getLsbD 1
      err := s.STATUS.err && !v.getLsbD 2 }
    CAUSE := if v.getLsbD 2 then 0 else s.CAUSE
    ERRCMD := if v.getLsbD 2 then 0 else s.ERRCMD }

/-- How a command ends (10_state.md R52): its effect and completion, or the fault record on the state it started from. -/
def State.finish (s : State) (r : Except Cause State) : Host.Outcome State Fault Refusal :=
  match r with
  | .ok t => .next t.complete
  | .error c => .next (s.takeFault c)

end Sys2Proof.Machine
end

