-- ==== Sys2Proof/Machine/Rom.lean ====
section
/-! DEFINITION. The read-only constants of the block (10_state.md R41; 00_scope.md R9). The base-multiples table T of
10_state.md R45 is defined by value, in Sys2Proof/Machine/Group.lean. -/

namespace Sys2Proof.Machine

/-- `p`, the field modulus 2^255 - 19 (00_scope.md R9). -/
def p : Nat := 2 ^ 255 - 19

/-- The group order 2^252 + 27742317777372353535851937790883648493 (00_scope.md R9; 10_state.md R29). -/
def ell : Nat := 2 ^ 252 + 27742317777372353535851937790883648493

/-- `P1305`, the Poly1305 modulus 2^130 - 5 (00_scope.md R9). -/
def p1305 : Nat := 2 ^ 130 - 5

/-- `d`, the Edwards constant (10_state.md R41). -/
def edwardsD : Nat := 0x52036cee2b6ffe738cc740797779e89800700a4d4141d8ab75eb4dca135978a3

/-- The x coordinate of the Ed25519 base point B (10_state.md R41). -/
def baseX : Nat := 0x216936d3cd6e53fec0a4e231fdd6dc5c692cc7609525a7b2c9562d608f25d51a

/-- The y coordinate of the Ed25519 base point B (10_state.md R41). -/
def baseY : Nat := 0x6666666666666666666666666666666666666666666666666666666666666658

/-- The square root of -1 of 43_ge25519.md R193. -/
def sqrtM1 : Nat := 0x2b8324804fc1df0b2b4d00993dfbd7a72f431806ad2fe478c4ee1b274a0ea0b0

/-- The ladder constant (00_scope.md R9, `a24`). -/
def a24 : Nat := 121665

/-- The Curve25519 base u-coordinate (00_scope.md R9). -/
def baseU : Nat := 9

/-- `SIGMA`, the 16 ASCII bytes "expand 32-byte k" (10_state.md R41). -/
def sigma : List Byte :=
  [0x65, 0x78, 0x70, 0x61, 0x6e, 0x64, 0x20, 0x33, 0x32, 0x2d, 0x62, 0x79, 0x74, 0x65, 0x20, 0x6b]

/-- The constant that the register `ID` reads as (10_state.md R47). -/
def idValue : Word := 0x25519007

end Sys2Proof.Machine
end

