-- ==== Sys2Proof/Machine/Bus.lean ====
section
/-! DEFINITION. The host's accesses through the slave port: the register map (10_state.md R46), the DMEM window
(20_memory.md R73), the bus errors (20_memory.md R76) and the acceptance of a command word (10_state.md R52). -/

namespace Sys2Proof.Machine

/-- How many bytes an access moves (20_memory.md R73). -/
def Width.bytes : Width → Nat
  | .byte => 1
  | .half => 2
  | .word => 4

/-- The offset of DMEM byte 0 (10_state.md R46). -/
def windowBase : Nat := 0x10000

/-- The X register at an offset, if there is one (20_memory.md R80). -/
def xRegAt (offset : Nat) : Option XReg :=
  if 0x040 ≤ offset ∧ offset < 0x080 ∧ offset % 4 = 0 then some (Fin.ofNat 16 ((offset - 0x040) / 4)) else none

/-- What a register offset reads as; none where the map defines no register (10_state.md R46). -/
def State.readReg (s : State) (offset : Nat) : Option Word :=
  match offset with
  | 0x000 => some idValue
  | 0x004 => some (BitVec.ofNat 32 s.params.dmemBytes)
  | 0x008 => some s.CTRL.word
  | 0x00C => some s.STATUS.word
  | 0x010 => some s.CAUSE
  | 0x014 => some s.ERRCMD
  | 0x018 => some 0
  | 0x01C => some 0
  | _ => (xRegAt offset).map fun i => s.X[i]

/-- A write of `w` to `CMD` while BUSY = 0: dropped while ERR = 1, else accepted (10_state.md R52, cases (b) and (c)). -/
def State.writeCmd (s : State) (w : Word) : State := if s.STATUS.err then s else s.accept w

/-- What a write of `v` to a register offset does; none where the map defines no register (10_state.md R46; 20_memory.md
R79: writes to ID, CFG, STATUS, CAUSE and ERRCMD are ignored). -/
def State.writeReg (s : State) (offset : Nat) (v : Word) : Option State :=
  match offset with
  | 0x000 => some s
  | 0x004 => some s
  | 0x008 => some { s with CTRL := Ctrl.ofWord v }
  | 0x00C => some s
  | 0x010 => some s
  | 0x014 => some s
  | 0x018 => some (s.writeClr v)
  | 0x01C => some (s.writeCmd v)
  | _ => (xRegAt offset).map fun i => s.writeX i v

/-- An access in the DMEM window is defined: every byte it moves is a byte of DMEM (20_memory.md R76; log 16). -/
def State.inWindow (s : State) (width : Width) (offset : Nat) : Bool :=
  decide (windowBase ≤ offset) && decide (offset - windowBase + width.bytes ≤ s.params.dmemBytes)

/-- The data of a host read, in the low bits; none for a bus error (20_memory.md R73, R76). -/
def State.hostRead (s : State) (width : Width) (offset : Nat) : Option Word :=
  if offset % width.bytes = 0 then
    if offset < windowBase then
      if width = .word then s.readReg offset else none
    else if s.inWindow width offset then
      some (BitVec.ofNat 32 (leVal (s.DMEM.readBytes (offset - windowBase) width.bytes)))
    else none
  else none

/-- The state after a host write; none for a bus error (20_memory.md R73, R76). -/
def State.hostWrite (s : State) (width : Width) (offset : Nat) (data : Word) : Option State :=
  if offset % width.bytes = 0 then
    if offset < windowBase then
      if width = .word then s.writeReg offset data else none
    else if s.inWindow width offset then
      some (s.writeMem (offset - windowBase) (leBytes width.bytes data.toNat))
    else none
  else none

/-- Perform an access and answer the host; a bus error changes no state of the block (20_memory.md R76). -/
def State.perform (s : State) (a : Access) : State :=
  match a with
  | .read width offset =>
    match s.hostRead width offset with
    | some v => { s with answer := .data v }
    | none => { s with answer := .busError }
  | .write width offset data =>
    match s.hostWrite width offset data with
    | some t => { t with answer := .done }
    | none => { s with answer := .busError }

/-- The accesses that are never held: the reads of STATUS, ID and CFG (20_memory.md R83). -/
def Access.neverHeld : Access → Bool
  | .read .word offset => offset == 0x00C || offset == 0x000 || offset == 0x004
  | _ => false

/-- The hardware reset (70_reset_and_hazards.md R380 to R383): it overrides everything; DMEM is a new draw (log 4). -/
def State.hardReset (s : State) (later : List Input) : State := State.afterReset s.params s.draws later

end Sys2Proof.Machine
end

