-- ==== Sys2Proof/Machine/Field.lean ====
section
/-! DEFINITION. Exact arithmetic in GF(p) on integers (41_fe25519.md R140; 00_scope.md R14). The functions are total: on
canonical operands, integers in [0, p), they give the canonical residue. -/

namespace Sys2Proof.Machine

/-- `powStep m b n e` is `b^e mod m` for `e < 2^n`, by squaring. -/
def powStep (m b : Nat) : Nat → Nat → Nat
  | 0, _ => 1 % m
  | n + 1, e =>
    if e = 0 then 1 % m
    else
      let h := powStep m b n (e / 2)
      if e % 2 = 1 then h * h % m * b % m else h * h % m

/-- `b^e mod m` (00_scope.md R14). It equals the power computed without reduction: Laws, `powMod_eq`. Not unfolded by a proof
that does not ask for it. -/
@[irreducible] def powMod (m b e : Nat) : Nat := powStep m b (e.log2 + 1) e

/-- `(a + b) mod p` (41_fe25519.md R144). -/
def fAdd (a b : Nat) : Nat := (a + b) % p

/-- `(a - b) mod p`, in [0, p) also when a < b (41_fe25519.md R145). -/
def fSub (a b : Nat) : Nat := (a + (p - b % p)) % p

/-- `(a * b) mod p` (41_fe25519.md R146). -/
def fMul (a b : Nat) : Nat := a * b % p

/-- `a^(p-2) mod p`, the inverse for a != 0 and 0 for a = 0 (41_fe25519.md R152; 00_scope.md R14). -/
def fInv (a : Nat) : Nat := powMod p a (p - 2)

/-- `a^((p-5)/8) mod p` (41_fe25519.md R153). -/
def fPow2523 (a : Nat) : Nat := powMod p a ((p - 5) / 8)

/-- The field element of a 32-byte string: bit 255 is dropped, then the value is reduced (41_fe25519.md R142). -/
def fDecode (v : Nat) : Nat := v % 2 ^ 255 % p

end Sys2Proof.Machine
end

