-- ==== Sys2Proof/Machine/Operands.lean ====
section
/-! DEFINITION. The operand forms (30_encoding.md R105) with their checks. A meaning reads its operands in the order of the
steps of 30_encoding.md R108: valid bits in field order and then unit state, X values, DMEM ranges with the sources before
the destinations, values read from DMEM. The first check that fails is the fault (60_exceptions.md R350). -/

namespace Sys2Proof.Machine

/-- A check: the fault `c` unless `b`. -/
def check (b : Bool) (c : Cause) : Except Cause Unit := if b then .ok () else .error c

/-- The value of a typed register; UNINIT if its valid bit is 0 (10_state.md R27; 60_exceptions.md R346). -/
def Slot.need (r : Slot α) : Except Cause α := if r.valid then .ok r.value else .error .uninit

/-- Read of `F[i]` (00_scope.md R13). -/
def State.needF (s : State) (i : FReg) : Except Cause Nat := s.F[i].need

/-- Read of `S[i]` (00_scope.md R13). -/
def State.needS (s : State) (i : SReg) : Except Cause Nat := s.S[i].need

/-- Read of `P[i]` (00_scope.md R13). -/
def State.needP (s : State) (i : PReg) : Except Cause Point := s.P[i].need

/-- Read of the working words; UNINIT if WV = 0 (00_scope.md R13). -/
def State.needW (s : State) : Except Cause (Vector Word 16) := if s.WV then .ok s.W else .error .uninit

/-- The Poly1305 state is read; UNINIT if PV = 0 (00_scope.md R13). -/
def State.needPoly (s : State) : Except Cause Unit := check s.PV .uninit

/-- The range check of a DMEM operand of `n` bytes at address `a` (20_memory.md R74): unbounded integers, no wrap, and no
check where `n = 0`. -/
def State.inRange (s : State) (a n : Nat) : Bool := n == 0 || decide (a + n ≤ s.params.dmemBytes)

/-- ADDR_RANGE unless the operand fits in DMEM (60_exceptions.md R347). -/
def State.needRange (s : State) (a n : Nat) : Except Cause Unit := check (s.inRange a n) .addrRange

/-- X indirect, source: the `n` bytes at the address in `X[i]` (30_encoding.md R105; 00_scope.md R13, MemRead). -/
def State.needBytes (s : State) (i : XReg) (n : Nat) : Except Cause (List Byte) := do
  s.needRange (s.xVal i) n
  pure (s.DMEM.readBytes (s.xVal i) n)

/-- X indirect, destination: the address in `X[i]`, for `n` bytes (30_encoding.md R105; 00_scope.md R13, MemWrite). -/
def State.needDest (s : State) (i : XReg) (n : Nat) : Except Cause Nat := do
  s.needRange (s.xVal i) n
  pure (s.xVal i)

end Sys2Proof.Machine
end

