-- ==== Sys2Proof/Machine/Fe.lean ====
section
/-! DEFINITION. The field commands (41_fe25519.md). -/

namespace Sys2Proof.Machine

/-- The effect of a command `F[d] <- g(F[a], F[b])` (41_fe25519.md R144 to R146). -/
def State.fieldBinary (s : State) (g : Nat → Nat → Nat) (d a b : FReg) : Except Cause State := do
  let x ← s.needF a
  let y ← s.needF b
  pure (s.writeF d (g x y))

/-- The effect of a command `F[d] <- g(F[a])` (41_fe25519.md R147, R152, R153). -/
def State.fieldUnary (s : State) (g : Nat → Nat) (d a : FReg) : Except Cause State := do
  let x ← s.needF a
  pure (s.writeF d (g x))

/-- FE.UNPACK Fd, [Xa] (41_fe25519.md R142). -/
def execFeUnpack (d : FReg) (a : XReg) (s : State) : Host.Outcome State Fault Refusal :=
  s.finish do
    let bs ← s.needBytes a 32
    pure (s.writeF d (fDecode (leVal bs)))

/-- FE.PACK [Xd], Fa (41_fe25519.md R143). -/
def execFePack (d : XReg) (a : FReg) (s : State) : Host.Outcome State Fault Refusal :=
  s.finish do
    let v ← s.needF a
    let q ← s.needDest d 32
    pure (s.writeMem q (leBytes 32 v))

/-- FE.ADD Fd, Fa, Fb (41_fe25519.md R144). -/
def execFeAdd (d a b : FReg) (s : State) : Host.Outcome State Fault Refusal := s.finish (s.fieldBinary fAdd d a b)

/-- FE.SUB Fd, Fa, Fb (41_fe25519.md R145). -/
def execFeSub (d a b : FReg) (s : State) : Host.Outcome State Fault Refusal := s.finish (s.fieldBinary fSub d a b)

/-- FE.MUL Fd, Fa, Fb (41_fe25519.md R146). -/
def execFeMul (d a b : FReg) (s : State) : Host.Outcome State Fault Refusal := s.finish (s.fieldBinary fMul d a b)

/-- FE.SQ Fd, Fa (41_fe25519.md R147). -/
def execFeSq (d a : FReg) (s : State) : Host.Outcome State Fault Refusal :=
  s.finish (s.fieldUnary (fun x => fMul x x) d a)

/-- FE.CMOV Fd, Fa, Xb (41_fe25519.md R148): F[d] and F[a] are read whatever the condition. -/
def execFeCmov (d a : FReg) (b : XReg) (s : State) : Host.Outcome State Fault Refusal :=
  s.finish do
    let old ← s.needF d
    let x ← s.needF a
    check (decide (s.xVal b ≤ 1)) .badValue
    pure (s.writeF d (if s.xVal b = 1 then x else old))

/-- FE.ISEQ Xd, Fa, Fb (41_fe25519.md R149). -/
def execFeIseq (d : XReg) (a b : FReg) (s : State) : Host.Outcome State Fault Refusal :=
  s.finish do
    let x ← s.needF a
    let y ← s.needF b
    pure (s.writeX d (boolWord (x == y)))

/-- FE.PARITY Xd, Fa (41_fe25519.md R150). -/
def execFeParity (d : XReg) (a : FReg) (s : State) : Host.Outcome State Fault Refusal :=
  s.finish do
    let x ← s.needF a
    pure (s.writeX d (boolWord (x % 2 == 1)))

/-- FE.INV Fd, Fa (41_fe25519.md R152). -/
def execFeInv (d a : FReg) (s : State) : Host.Outcome State Fault Refusal := s.finish (s.fieldUnary fInv d a)

/-- FE.POW2523 Fd, Fa (41_fe25519.md R153). -/
def execFePow2523 (d a : FReg) (s : State) : Host.Outcome State Fault Refusal := s.finish (s.fieldUnary fPow2523 d a)

end Sys2Proof.Machine
end

