-- ==== Sys2Proof/Machine/Group.lean ====
section
/-! DEFINITION. The group of the twisted Edwards curve E (43_ge25519.md R190, R191) on affine points, the point codec
(R193, R194) and the base-multiples table (10_state.md R45; 43_ge25519.md R197). -/

namespace Sys2Proof.Machine

/-- Both coordinates are canonical and satisfy the curve equation `-x^2 + y^2 = 1 + d x^2 y^2` (43_ge25519.md R190). -/
def Point.onCurve (q : Point) : Bool :=
  decide (q.x < p) && decide (q.y < p) &&
    fSub (fMul q.y q.y) (fMul q.x q.x) == fAdd 1 (fMul edwardsD (fMul (fMul q.x q.x) (fMul q.y q.y)))

/-- The neutral point (00_scope.md R14). -/
def Point.neutral : Point := { x := 0, y := 1 }

/-- The Ed25519 base point B (10_state.md R41). -/
def Point.base : Point := { x := baseX, y := baseY }

/-- `d x1 x2 y1 y2`, the `k` of the group law (43_ge25519.md R191). -/
def Point.lawK (q r : Point) : Nat := fMul edwardsD (fMul (fMul q.x r.x) (fMul q.y r.y))

/-- The group law (43_ge25519.md R191). -/
def Point.add (q r : Point) : Point :=
  { x := fMul (fAdd (fMul q.x r.y) (fMul r.x q.y)) (fInv (fAdd 1 (q.lawK r)))
    y := fMul (fAdd (fMul q.y r.y) (fMul q.x r.x)) (fInv (fSub 1 (q.lawK r))) }

/-- The negative of a point (43_ge25519.md R191). -/
def Point.neg (q : Point) : Point := { x := (p - q.x) % p, y := q.y }

/-- `smulStep n k q` is `k·q` for `k < 2^n`, by doubling and adding. -/
def Point.smulStep : Nat → Nat → Point → Point
  | 0, _, _ => Point.neutral
  | n + 1, k, q =>
    if k = 0 then Point.neutral
    else
      let h := Point.smulStep n (k / 2) q
      if k % 2 = 1 then (h.add h).add q else h.add h

/-- `k·q`, `q` added to itself `k` times from the neutral point (43_ge25519.md R191), computed by doubling and adding: the
same point because the law is a group law (log 8). -/
def Point.smul (k : Nat) (q : Point) : Point := Point.smulStep (k.log2 + 1) k q

/-- `T[pos][j] = j · 8^pos · B` (10_state.md R45). -/
def tableEntry (pos j : Nat) : Point := Point.smul (j * 8 ^ pos) Point.base

/-- The table gather `choose_t(pos, g)` (43_ge25519.md R197). -/
def chooseT (pos : Nat) (g : Int) : Point :=
  if 0 ≤ g then tableEntry pos g.natAbs else (tableEntry pos g.natAbs).neg

/-- A root `x` of `x·x·den = num`, if there is one: the candidate `num·den^3·(num·den^7)^((p-5)/8)`, or that times the square
root of -1 (43_ge25519.md R193; log 9). -/
def sqrtRatio (num den : Nat) : Option Nat :=
  let den3 := fMul (fMul den den) den
  let den7 := fMul (fMul den3 den3) den
  let r := fMul (fMul num den3) (fPow2523 (fMul num den7))
  if fMul (fMul r r) den = num then some r
  else
    let r' := fMul r sqrtM1
    if fMul (fMul r' r') den = num then some r' else none

/-- `num = y·y - 1` (43_ge25519.md R193). -/
def curveNum (y : Nat) : Nat := fSub (fMul y y) 1

/-- `den = d·y·y + 1` (43_ge25519.md R193). -/
def curveDen (y : Nat) : Nat := fAdd (fMul edwardsD (fMul y y)) 1

/-- The x coordinate of the negated point with packed parity `par` and coordinate `y`: the root with parity `1 - par` if
`num != 0`, else 0; none if there is no root (43_ge25519.md R193). -/
def recoverNegX (y par : Nat) : Option Nat :=
  (sqrtRatio (curveNum y) (curveDen y)).map fun r =>
    if curveNum y = 0 then 0 else if r % 2 = 1 - par then r else (p - r) % p

/-- The number of a packed point: y with the parity of x in bit 255 (43_ge25519.md R194). -/
def Point.packed (q : Point) : Nat := q.y + 2 ^ 255 * (q.x % 2)

end Sys2Proof.Machine
end

