-- ==== Sys2Proof/Machine/Ge.lean ====
section
/-! DEFINITION. The group commands (43_ge25519.md). -/

namespace Sys2Proof.Machine

/-- What GE.UNPACKNEG writes, once the root of the negated point is known or known not to exist (43_ge25519.md R193): the flag
to `X[b]`, and to `P[d]` the point, or the invalid register. -/
def State.writeUnpacked (s : State) (d : PReg) (b : XReg) (y : Nat) (root : Option Nat) : State :=
  { s with
    X := s.X.set b (boolWord root.isSome)
    P := s.P.set d
      (match root with
      | none => Slot.invalid Point.zero
      | some x => { valid := true, value := { x := x, y := y } }) }

/-- GE.UNPACKNEG Pd, [Xa], Xb (43_ge25519.md R193). -/
def execGeUnpackneg (d : PReg) (a b : XReg) (s : State) : Host.Outcome State Fault Refusal :=
  s.finish do
    let bs ← s.needBytes a 32
    let y := fDecode (leVal bs)
    pure (s.writeUnpacked d b y (recoverNegX y (leVal bs / 2 ^ 255)))

/-- GE.PACK [Xd], Pa (43_ge25519.md R194). -/
def execGePack (d : XReg) (a : PReg) (s : State) : Host.Outcome State Fault Refusal :=
  s.finish do
    let q ← s.needP a
    let out ← s.needDest d 32
    pure (s.writeMem out (leBytes 32 q.packed))

/-- GE.ADD Pd, Pa, Pb (43_ge25519.md R195). -/
def execGeAdd (d a b : PReg) (s : State) : Host.Outcome State Fault Refusal :=
  s.finish do
    let q ← s.needP a
    let r ← s.needP b
    pure (s.writeP d (q.add r))

/-- GE.DBL Pd, Pa (43_ge25519.md R196). -/
def execGeDbl (d a : PReg) (s : State) : Host.Outcome State Fault Refusal :=
  s.finish do
    let q ← s.needP a
    pure (s.writeP d (q.add q))

/-- GE.MADD Pd, Pa, Xb, [Xc] (43_ge25519.md R198): the position is checked before the digit's range, the digit last. -/
def execGeMadd (d a : PReg) (b c : XReg) (s : State) : Host.Outcome State Fault Refusal :=
  s.finish do
    let q ← s.needP a
    check (decide (s.xVal b ≤ 84)) .badValue
    s.needRange (s.xVal c) 1
    let g := signed8 (s.DMEM.read (s.xVal c))
    check (decide (-4 ≤ g) && decide (g ≤ 4)) .badValue
    pure (s.writeP d (q.add (chooseT (s.xVal b) g)))

/-- GE.SMULBASE Pd, Sa (43_ge25519.md R199): `s · B`. -/
def execGeSmulbase (d : PReg) (a : SReg) (s : State) : Host.Outcome State Fault Refusal :=
  s.finish do
    let k ← s.needS a
    pure (s.writeP d (Point.smul k Point.base))

/-- GE.DSMUL Pd, Pa, Sb, Pc, Se (43_ge25519.md R200): `s1 · P1 + s2 · P2`. -/
def execGeDsmul (d a : PReg) (b : SReg) (c : PReg) (e : SReg) (s : State) : Host.Outcome State Fault Refusal :=
  s.finish do
    let q1 ← s.needP a
    let k1 ← s.needS b
    let q2 ← s.needP c
    let k2 ← s.needS e
    pure (s.writeP d ((Point.smul k1 q1).add (Point.smul k2 q2)))

end Sys2Proof.Machine
end

