-- ==== Sys2Proof/Machine/Ladder.lean ====
section
/-! DEFINITION. The Montgomery ladder commands (44_curve25519.md). -/

namespace Sys2Proof.Machine

/-- `clamp(n)` of a 32-byte string, given as its little-endian value (44_curve25519.md R221): bits 2:0 and 255 cleared,
bit 254 set. -/
def clampScalar (v : Nat) : Nat := v % 2 ^ 254 / 8 * 8 + 2 ^ 254

/-- `decode_u` of a 32-byte string, given as its little-endian value (44_curve25519.md R222). -/
def decodeU (maskU255 : Bool) (v : Nat) : Nat := (if maskU255 then v % 2 ^ 255 else v) % p

/-- The four coordinates of the ladder (44_curve25519.md R223). -/
structure LadderState where
  x2 : Nat
  z2 : Nat
  x3 : Nat
  z3 : Nat
deriving DecidableEq, Repr

/-- `select(b, ...)`: the two pairs swapped if `b = 1` (44_curve25519.md R223). -/
def LadderState.select (b : Nat) (l : LadderState) : LadderState :=
  if b = 1 then { x2 := l.x3, z2 := l.z3, x3 := l.x2, z3 := l.z2 } else l

/-- The differential addition and doubling between the two selects (44_curve25519.md R223). -/
def LadderState.step (x1 : Nat) (l : LadderState) : LadderState :=
  let a := fAdd l.x2 l.z2
  let aa := fMul a a
  let b := fSub l.x2 l.z2
  let bb := fMul b b
  let e := fSub aa bb
  let da := fMul (fSub l.x3 l.z3) a
  let cb := fMul (fAdd l.x3 l.z3) b
  { x2 := fMul aa bb
    z2 := fMul e (fAdd aa (fMul a24 e))
    x3 := fMul (fAdd da cb) (fAdd da cb)
    z3 := fMul x1 (fMul (fSub da cb) (fSub da cb)) }

/-- The ladder over bit positions `n - 1` down to 0 (44_curve25519.md R223). -/
def ladderLoop (k x1 : Nat) : Nat → LadderState → LadderState
  | 0, l => l
  | pos + 1, l => ladderLoop k x1 pos (((l.select (k / 2 ^ pos % 2)).step x1).select (k / 2 ^ pos % 2))

/-- `ladder(k, u)`: 255 bit positions, then back to the affine coordinate (44_curve25519.md R223). -/
def ladder (k u : Nat) : Nat :=
  let l := ladderLoop k u 255 { x2 := 1, z2 := 0, x3 := u, z3 := 1 }
  fMul l.x2 (fInv l.z2)

/-- X.LADDER [Xd], [Xa], [Xb] (44_curve25519.md R224). -/
def execXLadder (d a b : XReg) (s : State) : Host.Outcome State Fault Refusal :=
  s.finish do
    let n ← s.needBytes a 32
    let pb ← s.needBytes b 32
    let q ← s.needDest d 32
    pure (s.writeMem q (leBytes 32 (ladder (clampScalar (leVal n)) (decodeU s.params.x25519MaskU255 (leVal pb)))))

/-- X.BASE [Xd], [Xa] (44_curve25519.md R225). -/
def execXBase (d a : XReg) (s : State) : Host.Outcome State Fault Refusal :=
  s.finish do
    let n ← s.needBytes a 32
    let q ← s.needDest d 32
    pure (s.writeMem q (leBytes 32 (ladder (clampScalar (leVal n)) baseU)))

end Sys2Proof.Machine
end

