-- ==== Sys2Proof/Machine/Poly.lean ====
section
/-! DEFINITION. The Poly1305 commands (46_poly1305.md). The 1 byte is appended to every chunk (90_conflicts.md C1). -/

namespace Sys2Proof.Machine

/-- `chunkval(ch)`: the bytes, then a single 1 byte (46_poly1305.md R256). -/
def chunkVal (ch : List Byte) : Nat := leVal ch + 2 ^ (8 * ch.length)

/-- `absorb(h, r, ch)` (46_poly1305.md R256). -/
def absorb (h r : Nat) (ch : List Byte) : Nat := (h + chunkVal ch) * r % p1305

/-- `clampr` of the first key half, given as its little-endian value (46_poly1305.md R257). -/
def clampR (v : Nat) : BitVec 128 := BitVec.ofNat 128 v &&& 0x0ffffffc0ffffffc0ffffffc0fffffff

/-- `PR` of a 32-byte key (46_poly1305.md R257). -/
def keyR (key : List Byte) : BitVec 128 := clampR (leVal (key.take 16))

/-- `PS` of a 32-byte key (46_poly1305.md R257). -/
def keyS (key : List Byte) : BitVec 128 := BitVec.ofNat 128 (leVal ((key.drop 16).take 16))

/-- The successive 16-byte chunks of a string, the last one shorter if its length is no multiple of 16 (46_poly1305.md
R256); `n` is at least the number of chunks. -/
def chunksOf : Nat → List Byte → List (List Byte)
  | 0, _ => []
  | _ + 1, [] => []
  | n + 1, b :: bs => (b :: bs).take 16 :: chunksOf n ((b :: bs).drop 16)

/-- The accumulator after a message, from zero (46_poly1305.md R256). -/
def polyHash (r : Nat) (m : List Byte) : Nat := (chunksOf m.length m).foldl (fun h ch => absorb h r ch) 0

/-- The 16 bytes of the tag: `LE16((h + s) mod 2^128)` (46_poly1305.md R256, R259). -/
def tagBytes (h : Nat) (pad : BitVec 128) : List Byte := leBytes 16 ((h + pad.toNat) % 2 ^ 128)

/-- `poly1305(m, key)` (46_poly1305.md R256). -/
def poly1305 (m key : List Byte) : List Byte := tagBytes (polyHash (keyR key).toNat m) (keyS key)

/-- The OR of the XOR differences of two tags, with no early exit (46_poly1305.md R261). -/
def tagDiff (t t' : List Byte) : Byte := (List.zipWith (· ^^^ ·) t t').foldl (· ||| ·) 0

/-- PL.INIT [Xa] (46_poly1305.md R257). -/
def execPlInit (a : XReg) (s : State) : Host.Outcome State Fault Refusal :=
  s.finish do
    let key ← s.needBytes a 32
    pure (s.writePoly 0 (keyR key) (keyS key))

/-- PL.BLOCK [Xa], Xb (46_poly1305.md R258). -/
def execPlBlock (a b : XReg) (s : State) : Host.Outcome State Fault Refusal :=
  s.finish do
    s.needPoly
    check (decide (1 ≤ s.xVal b) && decide (s.xVal b ≤ 16)) .badLength
    let ch ← s.needBytes a (s.xVal b)
    pure (s.writePH (absorb s.PH s.PR.toNat ch))

/-- PL.FINAL [Xd] (46_poly1305.md R259). -/
def execPlFinal (d : XReg) (s : State) : Host.Outcome State Fault Refusal :=
  s.finish do
    s.needPoly
    let q ← s.needDest d 16
    pure (s.writeMem q (tagBytes s.PH s.PS))

/-- PL.AUTH [Xd], [Xa], Xb, [Xc] (46_poly1305.md R260). -/
def execPlAuth (d a b c : XReg) (s : State) : Host.Outcome State Fault Refusal :=
  s.finish do
    let m ← s.needBytes a (s.xVal b)
    let key ← s.needBytes c 32
    let q ← s.needDest d 16
    pure (s.writeMem q (poly1305 m key)).invalidatePoly

/-- PL.VERIFY Xd, [Xa], [Xb], Xc, [Xe] (46_poly1305.md R261). -/
def execPlVerify (d a b c e : XReg) (s : State) : Host.Outcome State Fault Refusal :=
  s.finish do
    let t ← s.needBytes a 16
    let m ← s.needBytes b (s.xVal c)
    let key ← s.needBytes e 32
    pure (s.writeX d (boolWord (tagDiff t (poly1305 m key) == 0))).invalidatePoly

end Sys2Proof.Machine
end

