-- ==== Sys2Proof/Machine/Salsa.lean ====
section
/-! DEFINITION. The Salsa20 core commands (45_salsa20.md). -/

namespace Sys2Proof.Machine

/-- The state layout `load(in, k, c)` (45_salsa20.md R236). -/
def salsaLoad (input k c : List Byte) : Vector Word 16 :=
  #v[leWord c 0, leWord k 0, leWord k 1, leWord k 2,
     leWord k 3, leWord c 1, leWord input 0, leWord input 1,
     leWord input 2, leWord input 3, leWord c 2, leWord k 4,
     leWord k 5, leWord k 6, leWord k 7, leWord c 3]

/-- The quarter-round `QR(i0, i1, i2, i3)`, its four statements in order (45_salsa20.md R237). -/
def quarterRound (i0 i1 i2 i3 : WIdx) (w : Vector Word 16) : Vector Word 16 :=
  let w := w.set i1 (w[i1] ^^^ rotl (w[i0] + w[i3]) 7)
  let w := w.set i2 (w[i2] ^^^ rotl (w[i1] + w[i0]) 9)
  let w := w.set i3 (w[i3] ^^^ rotl (w[i2] + w[i1]) 13)
  w.set i0 (w[i0] ^^^ rotl (w[i3] + w[i2]) 18)

/-- The column step of the double-round (45_salsa20.md R237). -/
def columnStep (w : Vector Word 16) : Vector Word 16 :=
  quarterRound 15 3 7 11 (quarterRound 10 14 2 6 (quarterRound 5 9 13 1 (quarterRound 0 4 8 12 w)))

/-- The row step of the double-round (45_salsa20.md R237). -/
def rowStep (w : Vector Word 16) : Vector Word 16 :=
  quarterRound 15 12 13 14 (quarterRound 10 11 8 9 (quarterRound 5 6 7 4 (quarterRound 0 1 2 3 w)))

/-- The double-round `DR`: column step, then row step (45_salsa20.md R237). -/
def doubleRound (w : Vector Word 16) : Vector Word 16 := rowStep (columnStep w)

/-- `n` double-rounds. -/
def doubleRounds : Nat → Vector Word 16 → Vector Word 16
  | 0, w => w
  | n + 1, w => doubleRounds n (doubleRound w)

/-- The words of a 64-byte string (45_salsa20.md R242). -/
def wordsOf (bs : List Byte) : Vector Word 16 :=
  #v[leWord bs 0, leWord bs 1, leWord bs 2, leWord bs 3, leWord bs 4, leWord bs 5, leWord bs 6, leWord bs 7,
     leWord bs 8, leWord bs 9, leWord bs 10, leWord bs 11, leWord bs 12, leWord bs 13, leWord bs 14, leWord bs 15]

/-- Word by word addition mod 2^32, the feed-forward (45_salsa20.md R242, R243). -/
def addWords (w j : Vector Word 16) : Vector Word 16 := w.zipWith (· + ·) j

/-- The bytes of the 16 words, each little-endian (45_salsa20.md R239, R243). -/
def wordsBytes (w : Vector Word 16) : List Byte := w.toList.flatMap wordBytes

/-- The 64 output bytes of `salsa20(out, in, k, c)` (45_salsa20.md R243). -/
def salsaCore (input k c : List Byte) : List Byte :=
  wordsBytes (addWords (doubleRounds 10 (salsaLoad input k c)) (salsaLoad input k c))

/-- The 32 output bytes of `hsalsa20(out, in, k, c)`: words 0, 5, 10, 15, 6, 7, 8, 9, no feed-forward (45_salsa20.md R244). -/
def hsalsaCore (input k c : List Byte) : List Byte :=
  let w := doubleRounds 10 (salsaLoad input k c)
  [w[0], w[5], w[10], w[15], w[6], w[7], w[8], w[9]].flatMap wordBytes

/-- The effect of a composite command with an output of `n` bytes (45_salsa20.md R243, R244): all inputs are read before the
output is written, and W is invalidated. -/
def State.salsaComposite (s : State) (core : List Byte → List Byte → List Byte → List Byte) (n : Nat) (d a b c : XReg) :
    Except Cause State := do
  let input ← s.needBytes a 16
  let k ← s.needBytes b 32
  let con ← s.needBytes c 16
  let q ← s.needDest d n
  pure (s.writeMem q (core input k con)).invalidateW

/-- SA.LDW [Xa], [Xb], [Xc] (45_salsa20.md R238). -/
def execSaLdw (a b c : XReg) (s : State) : Host.Outcome State Fault Refusal :=
  s.finish do
    let input ← s.needBytes a 16
    let k ← s.needBytes b 32
    let con ← s.needBytes c 16
    pure (s.writeW (salsaLoad input k con))

/-- SA.STW [Xd] (45_salsa20.md R239). -/
def execSaStw (d : XReg) (s : State) : Host.Outcome State Fault Refusal :=
  s.finish do
    let w ← s.needW
    let q ← s.needDest d 64
    pure (s.writeMem q (wordsBytes w))

/-- SA.QR i0, i1, i2, i3 (45_salsa20.md R240). -/
def execSaQr (i0 i1 i2 i3 : WIdx) (s : State) : Host.Outcome State Fault Refusal :=
  s.finish do
    let w ← s.needW
    pure (s.writeW (quarterRound i0 i1 i2 i3 w))

/-- SA.DROUND (45_salsa20.md R241). -/
def execSaDround (s : State) : Host.Outcome State Fault Refusal :=
  s.finish do
    let w ← s.needW
    pure (s.writeW (doubleRound w))

/-- SA.ADDW [Xa] (45_salsa20.md R242). -/
def execSaAddw (a : XReg) (s : State) : Host.Outcome State Fault Refusal :=
  s.finish do
    let w ← s.needW
    let j ← s.needBytes a 64
    pure (s.writeW (addWords w (wordsOf j)))

/-- SA.CORE [Xd], [Xa], [Xb], [Xc] (45_salsa20.md R243). -/
def execSaCore (d a b c : XReg) (s : State) : Host.Outcome State Fault Refusal :=
  s.finish (s.salsaComposite salsaCore 64 d a b c)

/-- SA.HCORE [Xd], [Xa], [Xb], [Xc] (45_salsa20.md R244). -/
def execSaHcore (d a b c : XReg) (s : State) : Host.Outcome State Fault Refusal :=
  s.finish (s.salsaComposite hsalsaCore 32 d a b c)

end Sys2Proof.Machine
end

