-- ==== Sys2Proof/Machine/Sc.lean ====
section
/-! DEFINITION. The scalar commands (42_sc25519.md). All arithmetic is exact, modulo the group order (R170). -/

namespace Sys2Proof.Machine

/-- The signed base-8 digits of the loop of 42_sc25519.md R177: `n` digits with a carry out, from digit `i` with carry `c`,
then the last digit without one. -/
def window3From (s : Nat) : Nat → Nat → Nat → List Int
  | 0, i, c => [((s / 8 ^ i % 8 + c : Nat) : Int)]
  | n + 1, i, c =>
    if 4 ≤ s / 8 ^ i % 8 + c then
      (((s / 8 ^ i % 8 + c : Nat) : Int) - 8) :: window3From s n (i + 1) 1
    else
      ((s / 8 ^ i % 8 + c : Nat) : Int) :: window3From s n (i + 1) 0

/-- The 85 window3 digits of a scalar (42_sc25519.md R177). -/
def window3 (s : Nat) : List Int := window3From s 84 0 0

/-- The 127 interleave2 nibbles of two scalars (42_sc25519.md R178). -/
def interleave2 (s1 s2 : Nat) : List Nat :=
  (List.range 127).map fun i => s1 / 4 ^ i % 4 + 4 * (s2 / 4 ^ i % 4)

/-- The effect of a command that loads `n` bytes as a scalar (42_sc25519.md R172, R173). -/
def State.scalarLoad (s : State) (n : Nat) (d : SReg) (a : XReg) : Except Cause State := do
  let bs ← s.needBytes a n
  pure (s.writeS d (leVal bs % ell))

/-- The effect of a command `S[d] <- g(S[a], S[b])` (42_sc25519.md R175, R176). -/
def State.scalarBinary (s : State) (g : Nat → Nat → Nat) (d a b : SReg) : Except Cause State := do
  let x ← s.needS a
  let y ← s.needS b
  pure (s.writeS d (g x y))

/-- SC.FROM32 Sd, [Xa] (42_sc25519.md R172). -/
def execScFrom32 (d : SReg) (a : XReg) (s : State) : Host.Outcome State Fault Refusal :=
  s.finish (s.scalarLoad 32 d a)

/-- SC.FROM64 Sd, [Xa] (42_sc25519.md R173). -/
def execScFrom64 (d : SReg) (a : XReg) (s : State) : Host.Outcome State Fault Refusal :=
  s.finish (s.scalarLoad 64 d a)

/-- SC.TO32 [Xd], Sa (42_sc25519.md R174). -/
def execScTo32 (d : XReg) (a : SReg) (s : State) : Host.Outcome State Fault Refusal :=
  s.finish do
    let v ← s.needS a
    let q ← s.needDest d 32
    pure (s.writeMem q (leBytes 32 v))

/-- SC.ADD Sd, Sa, Sb (42_sc25519.md R175). -/
def execScAdd (d a b : SReg) (s : State) : Host.Outcome State Fault Refusal :=
  s.finish (s.scalarBinary (fun x y => (x + y) % ell) d a b)

/-- SC.MUL Sd, Sa, Sb (42_sc25519.md R176). -/
def execScMul (d a b : SReg) (s : State) : Host.Outcome State Fault Refusal :=
  s.finish (s.scalarBinary (fun x y => x * y % ell) d a b)

/-- SC.WINDOW3 [Xd], Sa (42_sc25519.md R177): digit `i` as a two's complement byte at base + `i`. -/
def execScWindow3 (d : XReg) (a : SReg) (s : State) : Host.Outcome State Fault Refusal :=
  s.finish do
    let v ← s.needS a
    let q ← s.needDest d 85
    pure (s.writeMem q ((window3 v).map (BitVec.ofInt 8)))

/-- SC.INTLV2 [Xd], Sa, Sb (42_sc25519.md R178). -/
def execScIntlv2 (d : XReg) (a b : SReg) (s : State) : Host.Outcome State Fault Refusal :=
  s.finish do
    let v1 ← s.needS a
    let v2 ← s.needS b
    let q ← s.needDest d 127
    pure (s.writeMem q ((interleave2 v1 v2).map (BitVec.ofNat 8)))

end Sys2Proof.Machine
end

