-- ==== Sys2Proof/Machine/Stream.lean ====
section
/-! DEFINITION. The stream commands (47_stream.md). SIGMA is built in. -/

namespace Sys2Proof.Machine

/-- The input block `in_j`: the nonce, then the 64-bit little-endian block counter (47_stream.md R277). -/
def streamBlock (n8 : List Byte) (j : Nat) : List Byte := n8 ++ leBytes 8 j

/-- The first `blocks` 64-byte blocks of the keystream (47_stream.md R276). -/
def keystreamBlocks (n8 k : List Byte) (blocks : Nat) : List Byte :=
  (List.range blocks).flatMap fun j => salsaCore (streamBlock n8 j) k sigma

/-- The first `len` bytes of `KS(n8, k)` (47_stream.md R276). -/
def keystream (n8 k : List Byte) (len : Nat) : List Byte := (keystreamBlocks n8 k ((len + 63) / 64)).take len

/-- The first `len` bytes of `XKS(n24, k)` (47_stream.md R278). -/
def xkeystream (n24 k : List Byte) (len : Nat) : List Byte :=
  keystream (n24.drop 16) (hsalsaCore (n24.take 16) k sigma) len

/-- The message part of the byte-sequential loop (47_stream.md R280): from the message address `m` and the output address
`c`, each message byte is read immediately before its output byte is written. -/
def xorLoop (mem : Memory) : Nat → Nat → List Byte → Memory
  | _, _, [] => mem
  | c, m, k :: ks => xorLoop (mem.write c (mem.read m ^^^ k)) (c + 1) (m + 1) ks

/-- The byte-sequential loop of 47_stream.md R280: the `pad` leading keystream bytes, then the message part. -/
def streamLoop (mem : Memory) (c m pad : Nat) (ks : List Byte) : Memory :=
  xorLoop (mem.writeBytes c (ks.take pad)) (c + pad) m (ks.drop pad)

/-- The effect of a keystream command with an `n`-byte nonce (47_stream.md R281, R283). -/
def State.streamOut (s : State) (ks : List Byte → List Byte → Nat → List Byte) (n : Nat) (d a b c : XReg) :
    Except Cause State := do
  let nonce ← s.needBytes b n
  let k ← s.needBytes c 32
  let q ← s.needDest d (s.xVal a)
  pure (s.writeMem q (ks nonce k (s.xVal a))).invalidateW

/-- The effect of an XOR command with an `n`-byte nonce (47_stream.md R282, R284). -/
def State.streamXor (s : State) (ks : List Byte → List Byte → Nat → List Byte) (n : Nat) (d a b c e f : XReg) :
    Except Cause State := do
  check (decide (s.xVal f ≤ 63)) .badValue
  s.needRange (s.xVal a) (s.xVal b)
  let nonce ← s.needBytes c n
  let k ← s.needBytes e 32
  let q ← s.needDest d (s.xVal f + s.xVal b)
  pure (s.withMem (streamLoop s.DMEM q (s.xVal a) (s.xVal f) (ks nonce k (s.xVal f + s.xVal b)))).invalidateW

/-- S20.STREAM [Xd], Xa, [Xb], [Xc] (47_stream.md R281). -/
def execS20Stream (d a b c : XReg) (s : State) : Host.Outcome State Fault Refusal :=
  s.finish (s.streamOut keystream 8 d a b c)

/-- S20.XOR [Xd], [Xa], Xb, [Xc], [Xe], Xf (47_stream.md R282). -/
def execS20Xor (d a b c e f : XReg) (s : State) : Host.Outcome State Fault Refusal :=
  s.finish (s.streamXor keystream 8 d a b c e f)

/-- XS.STREAM [Xd], Xa, [Xb], [Xc] (47_stream.md R283). -/
def execXsStream (d a b c : XReg) (s : State) : Host.Outcome State Fault Refusal :=
  s.finish (s.streamOut xkeystream 24 d a b c)

/-- XS.XOR [Xd], [Xa], Xb, [Xc], [Xe], Xf (47_stream.md R284). -/
def execXsXor (d a b c e f : XReg) (s : State) : Host.Outcome State Fault Refusal :=
  s.finish (s.streamXor xkeystream 24 d a b c e f)

end Sys2Proof.Machine
end

