-- ==== Sys2Proof/Machine/System.lean ====
section
/-! DEFINITION. The system commands NOP and WIPE (40_system.md). -/

namespace Sys2Proof.Machine

/-- What WIPE clears (40_system.md R132): X, every typed register and its valid bit, W, the Poly1305 state and DMEM. CTRL is
not changed. -/
def State.wipe (s : State) : State :=
  { s with
    X := Vector.replicate 16 0
    F := Vector.replicate 16 (Slot.invalid 0)
    S := Vector.replicate 16 (Slot.invalid 0)
    P := Vector.replicate 16 (Slot.invalid Point.zero)
    W := Vector.replicate 16 0
    WV := false
    PH := 0
    PR := 0
    PS := 0
    PV := false
    DMEM := Memory.wiped }

/-- NOP (40_system.md R131): no effect but the completion. -/
def execNop (s : State) : Host.Outcome State Fault Refusal := s.finish (.ok s)

/-- WIPE (40_system.md R132). -/
def execWipe (s : State) : Host.Outcome State Fault Refusal := s.finish (.ok s.wipe)

end Sys2Proof.Machine
end

