-- ==== Sys2Proof/Machine/Dispatch.lean ====
section
/-! DEFINITION. The execution of one decoded command, steps 3 to 8 of 30_encoding.md R108: one meaning per command. -/

namespace Sys2Proof.Machine

def exec (i : Instr) (s : State) : Host.Outcome State Fault Refusal :=
  match i with
  | .nop => Sys2Proof.Machine.execNop s
  | .wipe => Sys2Proof.Machine.execWipe s
  | .feUnpack d a => Sys2Proof.Machine.execFeUnpack d a s
  | .fePack d a => Sys2Proof.Machine.execFePack d a s
  | .feAdd d a b => Sys2Proof.Machine.execFeAdd d a b s
  | .feSub d a b => Sys2Proof.Machine.execFeSub d a b s
  | .feMul d a b => Sys2Proof.Machine.execFeMul d a b s
  | .feSq d a => Sys2Proof.Machine.execFeSq d a s
  | .feCmov d a b => Sys2Proof.Machine.execFeCmov d a b s
  | .feIseq d a b => Sys2Proof.Machine.execFeIseq d a b s
  | .feParity d a => Sys2Proof.Machine.execFeParity d a s
  | .feInv d a => Sys2Proof.Machine.execFeInv d a s
  | .fePow2523 d a => Sys2Proof.Machine.execFePow2523 d a s
  | .scFrom32 d a => Sys2Proof.Machine.execScFrom32 d a s
  | .scFrom64 d a => Sys2Proof.Machine.execScFrom64 d a s
  | .scTo32 d a => Sys2Proof.Machine.execScTo32 d a s
  | .scAdd d a b => Sys2Proof.Machine.execScAdd d a b s
  | .scMul d a b => Sys2Proof.Machine.execScMul d a b s
  | .scWindow3 d a => Sys2Proof.Machine.execScWindow3 d a s
  | .scIntlv2 d a b => Sys2Proof.Machine.execScIntlv2 d a b s
  | .geUnpackneg d a b => Sys2Proof.Machine.execGeUnpackneg d a b s
  | .gePack d a => Sys2Proof.Machine.execGePack d a s
  | .geAdd d a b => Sys2Proof.Machine.execGeAdd d a b s
  | .geDbl d a => Sys2Proof.Machine.execGeDbl d a s
  | .geMadd d a b c => Sys2Proof.Machine.execGeMadd d a b c s
  | .geSmulbase d a => Sys2Proof.Machine.execGeSmulbase d a s
  | .geDsmul d a b c e => Sys2Proof.Machine.execGeDsmul d a b c e s
  | .xLadder d a b => Sys2Proof.Machine.execXLadder d a b s
  | .xBase d a => Sys2Proof.Machine.execXBase d a s
  | .saLdw a b c => Sys2Proof.Machine.execSaLdw a b c s
  | .saStw d => Sys2Proof.Machine.execSaStw d s
  | .saQr i0 i1 i2 i3 => Sys2Proof.Machine.execSaQr i0 i1 i2 i3 s
  | .saDround => Sys2Proof.Machine.execSaDround s
  | .saAddw a => Sys2Proof.Machine.execSaAddw a s
  | .saCore d a b c => Sys2Proof.Machine.execSaCore d a b c s
  | .saHcore d a b c => Sys2Proof.Machine.execSaHcore d a b c s
  | .plInit a => Sys2Proof.Machine.execPlInit a s
  | .plBlock a b => Sys2Proof.Machine.execPlBlock a b s
  | .plFinal d => Sys2Proof.Machine.execPlFinal d s
  | .plAuth d a b c => Sys2Proof.Machine.execPlAuth d a b c s
  | .plVerify d a b c e => Sys2Proof.Machine.execPlVerify d a b c e s
  | .s20Stream d a b c => Sys2Proof.Machine.execS20Stream d a b c s
  | .s20Xor d a b c e f => Sys2Proof.Machine.execS20Xor d a b c e f s
  | .xsStream d a b c => Sys2Proof.Machine.execXsStream d a b c s
  | .xsXor d a b c e f => Sys2Proof.Machine.execXsXor d a b c e f s

end Sys2Proof.Machine
end

