-- ==== Sys2Proof/Machine/Cycle.lean ====
section
/-! DEFINITION. What the block does next: run the command it holds, or serve what the outside does (10_state.md R52;
20_memory.md R83, R84; 70_reset_and_hazards.md R380). -/

namespace Sys2Proof.Machine

/-- The fault cause of a word that is no command (30_encoding.md R106, R107). -/
def causeOf : DecodeError → Cause
  | .illegalOpcode => .illegalOpcode
  | .reservedField => .reservedField

/-- Run the word in `CUR` (30_encoding.md R108): decode it, and execute the command or take the fault. -/
def runCurrent (s : State) : Host.Outcome State Fault Refusal :=
  match decode s.CUR with
  | .ok i => exec i s
  | .error e => .next (s.takeFault (causeOf e))

/-- The head of the inputs has been taken. -/
def State.withInputs (s : State) (later : List Input) : State := { s with inputs := later }

/-- One free value has been taken (log 2). -/
def State.countDraw (s : State) : State := { s with draws := s.draws + 1 }

/-- One step. A reset overrides everything (70_reset_and_hazards.md R380). While BUSY = 1 the command runs before any held
access (20_memory.md R83); a read that is never held may be served before, as the free value says (log 2). While BUSY = 0
the oldest access is performed; with none, the block is idle and nothing changes (60_exceptions.md R365). -/
def cycle (s : State) : Host.Outcome State Fault Refusal :=
  match s.inputs with
  | .reset :: later => .next (s.hardReset later)
  | .access a :: later =>
    if s.STATUS.busy then
      if a.neverHeld then
        if Config.readServedWhileBusy s.draws then .next ((s.withInputs later).countDraw.perform a)
        else runCurrent s.countDraw
      else runCurrent s
    else .next ((s.withInputs later).perform a)
  | [] => if s.STATUS.busy then runCurrent s else .next s

/-- The state in which the accepted word `w` runs at the very next step, with nothing waiting at the port. -/
def State.holding (s : State) (w : Word) : State := (s.accept w).withInputs []

end Sys2Proof.Machine
end

