-- ==== Sys2Proof/Machine/Step.lean ====
section
/-! DEFINITION. The step of the machine. The block fetches nothing (10_state.md R24): the word it runs is the one in CUR. -/

namespace Sys2Proof.Machine

/-- One step: one command run whole, one host access, a reset, or idleness. -/
def step (s : State) : Host.Outcome State Fault Refusal := cycle s

/-- `s` with a command word accepted and no input before it: the next step runs exactly it (log 1). -/
def State.withFetchWord (s : State) (nbits w : Nat) : State := s.holding (BitVec.ofNat 32 (w % 2 ^ nbits))

end Sys2Proof.Machine
end

