-- ==== Sys2Proof/Safety.lean ====
section
/-! DEFINITION. The terms in which statements speak of a safe run: what a command may change (its frame), how a command ends
(10_state.md R52), the checks a command goes through in the order of 30_encoding.md R108, written from the tables of the spec
and not from the meanings, and the invariant of the state that every step keeps (10_state.md R27 to R30, R36, R49, R50). -/

namespace Sys2Proof.Machine

/-- The registers and bytes that a command may write; everything else is its frame. -/
structure Touch where
  /-- The X registers written. -/
  x : List XReg := []
  /-- The F registers written. -/
  f : List FReg := []
  /-- The S registers written. -/
  s : List SReg := []
  /-- The P registers written. -/
  p : List PReg := []
  /-- The working words and WV are written. -/
  w : Bool := false
  /-- The Poly1305 state is written. -/
  poly : Bool := false
  /-- The address of the bytes written, and their number. -/
  base : Nat := 0
  count : Nat := 0

/-- Between `s` and `t` the control registers other than STATUS, the held word, and the model's own fields are the same. -/
structure SameControl (s t : State) : Prop where
  params : t.params = s.params
  ctrl : t.CTRL = s.CTRL
  cause : t.CAUSE = s.CAUSE
  errcmd : t.ERRCMD = s.ERRCMD
  cur : t.CUR = s.CUR
  inputs : t.inputs = s.inputs
  answer : t.answer = s.answer
  draws : t.draws = s.draws

/-- Outside what `k` names, every register, valid bit and byte of memory is the same in `t` as in `s`. -/
structure Frame (k : Touch) (s t : State) : Prop where
  xregs : ∀ j : XReg, j ∉ k.x → t.X[j] = s.X[j]
  fregs : ∀ j : FReg, j ∉ k.f → t.F[j] = s.F[j]
  sregs : ∀ j : SReg, j ∉ k.s → t.S[j] = s.S[j]
  pregs : ∀ j : PReg, j ∉ k.p → t.P[j] = s.P[j]
  words : k.w = false → t.W = s.W ∧ t.WV = s.WV
  poly : k.poly = false → t.PH = s.PH ∧ t.PR = s.PR ∧ t.PS = s.PS ∧ t.PV = s.PV
  mem : ∀ a : Nat, ¬(k.base ≤ a ∧ a < k.base + k.count) → t.DMEM.read a = s.DMEM.read a

/-- A command completed from `s` in `t` (10_state.md R52; 30_encoding.md R108, step 8): BUSY is 0, DONE is 1, and nothing
outside `k` changed. -/
structure Completes (k : Touch) (s t : State) : Prop where
  status : t.STATUS = { busy := false, done := true, err := s.STATUS.err }
  control : SameControl s t
  frame : Frame k s t

/-- Step 3 of 30_encoding.md R108: the valid bit of every source register of a command is 1, and that of the unit state it
reads (the F, S and P source columns of R103; 60_exceptions.md R346). -/
def State.sourcesValid (s : State) (i : Instr) : Bool :=
  match i with
  | .nop => true
  | .wipe => true
  | .feUnpack _ _ => true
  | .fePack _ a => s.F[a].valid
  | .feAdd _ a b => s.F[a].valid && s.F[b].valid
  | .feSub _ a b => s.F[a].valid && s.F[b].valid
  | .feMul _ a b => s.F[a].valid && s.F[b].valid
  | .feSq _ a => s.F[a].valid
  | .feCmov d a _ => s.F[d].valid && s.F[a].valid
  | .feIseq _ a b => s.F[a].valid && s.F[b].valid
  | .feParity _ a => s.F[a].valid
  | .feInv _ a => s.F[a].valid
  | .fePow2523 _ a => s.F[a].valid
  | .scFrom32 _ _ => true
  | .scFrom64 _ _ => true
  | .scTo32 _ a => s.S[a].valid
  | .scAdd _ a b => s.S[a].valid && s.S[b].valid
  | .scMul _ a b => s.S[a].valid && s.S[b].valid
  | .scWindow3 _ a => s.S[a].valid
  | .scIntlv2 _ a b => s.S[a].valid && s.S[b].valid
  | .geUnpackneg _ _ _ => true
  | .gePack _ a => s.P[a].valid
  | .geAdd _ a b => s.P[a].valid && s.P[b].valid
  | .geDbl _ a => s.P[a].valid
  | .geMadd _ a _ _ => s.P[a].valid
  | .geSmulbase _ a => s.S[a].valid
  | .geDsmul _ a b c e => s.P[a].valid && s.S[b].valid && s.P[c].valid && s.S[e].valid
  | .xLadder _ _ _ => true
  | .xBase _ _ => true
  | .saLdw _ _ _ => true
  | .saStw _ => s.WV
  | .saQr _ _ _ _ => s.WV
  | .saDround => s.WV
  | .saAddw _ => s.WV
  | .saCore _ _ _ _ => true
  | .saHcore _ _ _ _ => true
  | .plInit _ => true
  | .plBlock _ _ => s.PV
  | .plFinal _ => s.PV
  | .plAuth _ _ _ _ => true
  | .plVerify _ _ _ _ _ => true
  | .s20Stream _ _ _ _ => true
  | .s20Xor _ _ _ _ _ _ => true
  | .xsStream _ _ _ _ => true
  | .xsXor _ _ _ _ _ _ => true

/-- Step 4 of 30_encoding.md R108: the fault of an X value outside its legal range, if there is one (60_exceptions.md R348,
R349). -/
def State.valueFault (s : State) (i : Instr) : Option Cause :=
  match i with
  | .nop => none
  | .wipe => none
  | .feUnpack _ _ => none
  | .fePack _ _ => none
  | .feAdd _ _ _ => none
  | .feSub _ _ _ => none
  | .feMul _ _ _ => none
  | .feSq _ _ => none
  | .feCmov _ _ b => if s.xVal b ≤ 1 then none else some .badValue
  | .feIseq _ _ _ => none
  | .feParity _ _ => none
  | .feInv _ _ => none
  | .fePow2523 _ _ => none
  | .scFrom32 _ _ => none
  | .scFrom64 _ _ => none
  | .scTo32 _ _ => none
  | .scAdd _ _ _ => none
  | .scMul _ _ _ => none
  | .scWindow3 _ _ => none
  | .scIntlv2 _ _ _ => none
  | .geUnpackneg _ _ _ => none
  | .gePack _ _ => none
  | .geAdd _ _ _ => none
  | .geDbl _ _ => none
  | .geMadd _ _ b _ => if s.xVal b ≤ 84 then none else some .badValue
  | .geSmulbase _ _ => none
  | .geDsmul _ _ _ _ _ => none
  | .xLadder _ _ _ => none
  | .xBase _ _ => none
  | .saLdw _ _ _ => none
  | .saStw _ => none
  | .saQr _ _ _ _ => none
  | .saDround => none
  | .saAddw _ => none
  | .saCore _ _ _ _ => none
  | .saHcore _ _ _ _ => none
  | .plInit _ => none
  | .plBlock _ b => if 1 ≤ s.xVal b ∧ s.xVal b ≤ 16 then none else some .badLength
  | .plFinal _ => none
  | .plAuth _ _ _ _ => none
  | .plVerify _ _ _ _ _ => none
  | .s20Stream _ _ _ _ => none
  | .s20Xor _ _ _ _ _ f => if s.xVal f ≤ 63 then none else some .badValue
  | .xsStream _ _ _ _ => none
  | .xsXor _ _ _ _ _ f => if s.xVal f ≤ 63 then none else some .badValue

/-- The DMEM operands of a command but WIPE, each as its address and its length: the sources in field order, then the
destinations in field order (20_memory.md R77; step 5 of 30_encoding.md R108). -/
def State.operandRanges (s : State) (i : Instr) : List (Nat × Nat) :=
  match i with
  | .nop => []
  | .wipe => []
  | .feUnpack _ a => [(s.xVal a, 32)]
  | .fePack d _ => [(s.xVal d, 32)]
  | .feAdd _ _ _ => []
  | .feSub _ _ _ => []
  | .feMul _ _ _ => []
  | .feSq _ _ => []
  | .feCmov _ _ _ => []
  | .feIseq _ _ _ => []
  | .feParity _ _ => []
  | .feInv _ _ => []
  | .fePow2523 _ _ => []
  | .scFrom32 _ a => [(s.xVal a, 32)]
  | .scFrom64 _ a => [(s.xVal a, 64)]
  | .scTo32 d _ => [(s.xVal d, 32)]
  | .scAdd _ _ _ => []
  | .scMul _ _ _ => []
  | .scWindow3 d _ => [(s.xVal d, 85)]
  | .scIntlv2 d _ _ => [(s.xVal d, 127)]
  | .geUnpackneg _ a _ => [(s.xVal a, 32)]
  | .gePack d _ => [(s.xVal d, 32)]
  | .geAdd _ _ _ => []
  | .geDbl _ _ => []
  | .geMadd _ _ _ c => [(s.xVal c, 1)]
  | .geSmulbase _ _ => []
  | .geDsmul _ _ _ _ _ => []
  | .xLadder d a b => [(s.xVal a, 32), (s.xVal b, 32), (s.xVal d, 32)]
  | .xBase d a => [(s.xVal a, 32), (s.xVal d, 32)]
  | .saLdw a b c => [(s.xVal a, 16), (s.xVal b, 32), (s.xVal c, 16)]
  | .saStw d => [(s.xVal d, 64)]
  | .saQr _ _ _ _ => []
  | .saDround => []
  | .saAddw a => [(s.xVal a, 64)]
  | .saCore d a b c => [(s.xVal a, 16), (s.xVal b, 32), (s.xVal c, 16), (s.xVal d, 64)]
  | .saHcore d a b c => [(s.xVal a, 16), (s.xVal b, 32), (s.xVal c, 16), (s.xVal d, 32)]
  | .plInit a => [(s.xVal a, 32)]
  | .plBlock a b => [(s.xVal a, s.xVal b)]
  | .plFinal d => [(s.xVal d, 16)]
  | .plAuth d a b c => [(s.xVal a, s.xVal b), (s.xVal c, 32), (s.xVal d, 16)]
  | .plVerify _ a b c e => [(s.xVal a, 16), (s.xVal b, s.xVal c), (s.xVal e, 32)]
  | .s20Stream d a b c => [(s.xVal b, 8), (s.xVal c, 32), (s.xVal d, s.xVal a)]
  | .s20Xor d a b c e f => [(s.xVal a, s.xVal b), (s.xVal c, 8), (s.xVal e, 32), (s.xVal d, s.xVal f + s.xVal b)]
  | .xsStream d a b c => [(s.xVal b, 24), (s.xVal c, 32), (s.xVal d, s.xVal a)]
  | .xsXor d a b c e f => [(s.xVal a, s.xVal b), (s.xVal c, 24), (s.xVal e, 32), (s.xVal d, s.xVal f + s.xVal b)]

/-- Step 6 of 30_encoding.md R108: the digit byte that GE.MADD reads is one of -4 .. 4 (43_ge25519.md R198). No other command
checks a value it reads from DMEM. -/
def State.digitLegal (s : State) (i : Instr) : Bool :=
  match i with
  | .nop => true
  | .wipe => true
  | .feUnpack _ _ => true
  | .fePack _ _ => true
  | .feAdd _ _ _ => true
  | .feSub _ _ _ => true
  | .feMul _ _ _ => true
  | .feSq _ _ => true
  | .feCmov _ _ _ => true
  | .feIseq _ _ _ => true
  | .feParity _ _ => true
  | .feInv _ _ => true
  | .fePow2523 _ _ => true
  | .scFrom32 _ _ => true
  | .scFrom64 _ _ => true
  | .scTo32 _ _ => true
  | .scAdd _ _ _ => true
  | .scMul _ _ _ => true
  | .scWindow3 _ _ => true
  | .scIntlv2 _ _ _ => true
  | .geUnpackneg _ _ _ => true
  | .gePack _ _ => true
  | .geAdd _ _ _ => true
  | .geDbl _ _ => true
  | .geMadd _ _ _ c => decide (-4 ≤ signed8 (s.DMEM.read (s.xVal c)) ∧ signed8 (s.DMEM.read (s.xVal c)) ≤ 4)
  | .geSmulbase _ _ => true
  | .geDsmul _ _ _ _ _ => true
  | .xLadder _ _ _ => true
  | .xBase _ _ => true
  | .saLdw _ _ _ => true
  | .saStw _ => true
  | .saQr _ _ _ _ => true
  | .saDround => true
  | .saAddw _ => true
  | .saCore _ _ _ _ => true
  | .saHcore _ _ _ _ => true
  | .plInit _ => true
  | .plBlock _ _ => true
  | .plFinal _ => true
  | .plAuth _ _ _ _ => true
  | .plVerify _ _ _ _ _ => true
  | .s20Stream _ _ _ _ => true
  | .s20Xor _ _ _ _ _ _ => true
  | .xsStream _ _ _ _ => true
  | .xsXor _ _ _ _ _ _ => true

/-- What a command but WIPE may write when it completes (the written columns of 20_memory.md R77; the writers named in
10_state.md R22, R28 to R30, R35, R38). WIPE writes everything but CTRL and the fault record (40_system.md R132). -/
def State.touched (s : State) (i : Instr) : Touch :=
  match i with
  | .nop => {}
  | .wipe => {}
  | .feUnpack d _ => { f := [d] }
  | .fePack d _ => { base := s.xVal d, count := 32 }
  | .feAdd d _ _ => { f := [d] }
  | .feSub d _ _ => { f := [d] }
  | .feMul d _ _ => { f := [d] }
  | .feSq d _ => { f := [d] }
  | .feCmov d _ _ => { f := [d] }
  | .feIseq d _ _ => { x := [d] }
  | .feParity d _ => { x := [d] }
  | .feInv d _ => { f := [d] }
  | .fePow2523 d _ => { f := [d] }
  | .scFrom32 d _ => { s := [d] }
  | .scFrom64 d _ => { s := [d] }
  | .scTo32 d _ => { base := s.xVal d, count := 32 }
  | .scAdd d _ _ => { s := [d] }
  | .scMul d _ _ => { s := [d] }
  | .scWindow3 d _ => { base := s.xVal d, count := 85 }
  | .scIntlv2 d _ _ => { base := s.xVal d, count := 127 }
  | .geUnpackneg d _ b => { x := [b], p := [d] }
  | .gePack d _ => { base := s.xVal d, count := 32 }
  | .geAdd d _ _ => { p := [d] }
  | .geDbl d _ => { p := [d] }
  | .geMadd d _ _ _ => { p := [d] }
  | .geSmulbase d _ => { p := [d] }
  | .geDsmul d _ _ _ _ => { p := [d] }
  | .xLadder d _ _ => { base := s.xVal d, count := 32 }
  | .xBase d _ => { base := s.xVal d, count := 32 }
  | .saLdw _ _ _ => { w := true }
  | .saStw d => { base := s.xVal d, count := 64 }
  | .saQr _ _ _ _ => { w := true }
  | .saDround => { w := true }
  | .saAddw _ => { w := true }
  | .saCore d _ _ _ => { w := true, base := s.xVal d, count := 64 }
  | .saHcore d _ _ _ => { w := true, base := s.xVal d, count := 32 }
  | .plInit _ => { poly := true }
  | .plBlock _ _ => { poly := true }
  | .plFinal d => { base := s.xVal d, count := 16 }
  | .plAuth d _ _ _ => { poly := true, base := s.xVal d, count := 16 }
  | .plVerify d _ _ _ _ => { x := [d], poly := true }
  | .s20Stream d a _ _ => { w := true, base := s.xVal d, count := s.xVal a }
  | .s20Xor d _ b _ _ f => { w := true, base := s.xVal d, count := s.xVal f + s.xVal b }
  | .xsStream d a _ _ => { w := true, base := s.xVal d, count := s.xVal a }
  | .xsXor d _ b _ _ f => { w := true, base := s.xVal d, count := s.xVal f + s.xVal b }

/-- The commands of a list run one after another, each on the state that the one before it left. It stands for a host that
issues them in turn and changes nothing between them; used only where none of them faults. -/
def execAll : List Instr → State → Host.Outcome State Fault Refusal
  | [], s => .next s
  | i :: is, s =>
    match exec i s with
    | .next t => execAll is t
    | .fault e => .fault e
    | .refused r => .refused r

/-- The successive PL.BLOCK commands of 46_poly1305.md R262 over the `len` bytes at address `m`, at most `n` of them: before
each, the host puts the address of the chunk into `X[a]` and its length into `X[b]`. -/
def absorbChunks (a b : XReg) : Nat → Nat → Nat → State → Host.Outcome State Fault Refusal
  | 0, _, _, s => .next s
  | n + 1, m, len, s =>
    if len = 0 then .next s
    else
      match exec (.plBlock a b) ((s.writeX a (BitVec.ofNat 32 m)).writeX b (BitVec.ofNat 32 (min 16 len))) with
      | .next t => absorbChunks a b n (m + 16) (len - 16) t
      | .fault e => .fault e
      | .refused r => .refused r

/-- `select(b, x2, z2, x3, z3)` of 44_curve25519.md R223: the two pairs swapped if the bit is 1. -/
def swapPairs {α : Type} (b : Bool) (q : α × α × α × α) : α × α × α × α :=
  if b then (q.2.2.1, q.2.2.2, q.1, q.2.1) else q

/-- The unassigned opcode bytes, from .. to (30_encoding.md R106). -/
def unassignedOpcodes : List (Nat × Nat) :=
  [(0x02, 0x0F), (0x17, 0x17), (0x1A, 0x1F), (0x22, 0x2F), (0x37, 0x3F), (0x47, 0x4F), (0x52, 0x5F), (0x67, 0x6F),
   (0x75, 0x7F), (0x84, 0xFF)]

/-- The state `s` with the fault record of the cause code `code` (60_exceptions.md R343), field by field. -/
def State.faulted (s : State) (code : Word) : State :=
  { s with
    STATUS := { busy := false, done := s.STATUS.done, err := true }
    CAUSE := code
    ERRCMD := s.CUR }

/-- At most one of BUSY, DONE, ERR is 1 (10_state.md R49). -/
def Status.legal (t : Status) : Bool :=
  !(t.busy && t.done) && !(t.busy && t.err) && !(t.done && t.err)

/-- CAUSE and ERRCMD are 0 while ERR = 0 (10_state.md R50); while ERR = 1, CAUSE is one of the six codes (60_exceptions.md
R341). -/
def State.recordLegal (s : State) : Bool :=
  if s.STATUS.err then decide (1 ≤ s.CAUSE.toNat) && decide (s.CAUSE.toNat ≤ 6)
  else s.CAUSE == 0 && s.ERRCMD == 0

/-- A typed register holds a value below `n` if valid, and zero if not (10_state.md R27, R28, R29). -/
def Slot.below (n : Nat) (r : Slot Nat) : Bool := if r.valid then decide (r.value < n) else r.value == 0

/-- A point register holds canonical coordinates if valid, and zeros if not (10_state.md R27, R30). -/
def Slot.canonicalPoint (r : Slot Point) : Bool :=
  if r.valid then decide (r.value.x < Machine.p) && decide (r.value.y < Machine.p) else r.value == Point.zero

/-- A point register holds a point of E if valid (10_state.md R30; 43_ge25519.md R192). -/
def Slot.holdsPoint (r : Slot Point) : Bool := !r.valid || r.value.onCurve

/-- The working words are zero while WV = 0 (10_state.md R27, R35). -/
def State.wordsLegal (s : State) : Bool := s.WV || s.W == Vector.replicate 16 0

/-- PH is below P1305 and PR is clamped (10_state.md R36); all three are zero while PV = 0 (10_state.md R27, R38). -/
def State.polyLegal (s : State) : Bool :=
  decide (s.PH < p1305) && s.PR &&& 0x0ffffffc0ffffffc0ffffffc0fffffff == s.PR &&
    (s.PV || (s.PH == 0 && s.PR == 0 && s.PS == 0))

/-- DMEM is in canonical form and lists no byte outside 0 .. DMEM_BYTES - 1 (20_memory.md R70). -/
def State.memLegal (s : State) : Bool := s.DMEM.wf && s.DMEM.cells.all (fun c => decide (c.1 < s.params.dmemBytes))

/-- The invariant of the state. -/
structure State.Inv (s : State) : Prop where
  params : s.params.wf = true
  status : s.STATUS.legal = true
  record : s.recordLegal = true
  fields : ∀ i : FReg, (s.F[i]).below Machine.p = true
  scalars : ∀ i : SReg, (s.S[i]).below ell = true
  points : ∀ i : PReg, (s.P[i]).canonicalPoint = true
  words : s.wordsLegal = true
  poly : s.polyLegal = true
  mem : s.memLegal = true

/-- Every valid point register holds a point of E (43_ge25519.md R192). -/
def State.PointsOnCurve (s : State) : Prop := ∀ i : PReg, (s.P[i]).holdsPoint = true

end Sys2Proof.Machine
end

