-- ==== Sys2Proof/Certificates/Slice0/Obligations.lean ====
section
/-! DEFINITION. The statements for the provers. `∃ t, exec i s = .next t ∧ ...` says that the command completes and what the
next state holds; `Completes k s t` (Sys2Proof/Safety.lean) adds BUSY = 0, DONE = 1 and the frame outside `k`. -/

open Sys2Proof Sys2Proof.Machine

/-! ## Encoding -/

/-- The word of every command, with every operand at every value, decodes to that command (30_encoding.md R101, R103). -/
def Obligations.DecodeOfEncode : Prop := ∀ i : Instr, i.wellFormed = true → decode (encode i) = .ok i

/-- A word that decodes is the one word of its command: no bit of it is ignored (30_encoding.md R103, R107). -/
def Obligations.EncodeOfDecode : Prop := ∀ (w : Word) (i : Instr), decode w = .ok i → encode i = w

/-- The opcode bytes listed in 30_encoding.md R106 are exactly those that decode to no command, and running such a word
faults with cause 1. -/
def Obligations.UnassignedOpcodesFault : Prop :=
  (∀ w : Word, decode w = .error .illegalOpcode ↔
    ∃ r ∈ unassignedOpcodes, r.1 ≤ w.toNat / 2 ^ 24 ∧ w.toNat / 2 ^ 24 ≤ r.2) ∧
  ∀ s : State, s.STATUS.busy = true → s.inputs = [] →
    (∃ r ∈ unassignedOpcodes, r.1 ≤ s.CUR.toNat / 2 ^ 24 ∧ s.CUR.toNat / 2 ^ 24 ≤ r.2) → step s = .next (s.faulted 1)

/-- ILLEGAL_OPCODE whatever the other 24 bits are; RESERVED_FIELD exactly if the opcode is assigned and (w AND mask) is not
the match of its row; else the word is a command (60_exceptions.md R345). -/
def Obligations.MasksDecideReservedFields : Prop :=
  ∀ s : State, s.STATUS.busy = true → s.inputs = [] →
    ((∀ r ∈ opcodeTable, r.opcode ≠ s.CUR.toNat / 2 ^ 24) → step s = .next (s.faulted 1)) ∧
    ∀ r ∈ opcodeTable, r.opcode = s.CUR.toNat / 2 ^ 24 →
      (s.CUR &&& r.mask ≠ r.pattern → step s = .next (s.faulted 2)) ∧
      (s.CUR &&& r.mask = r.pattern → ∃ i, decode s.CUR = .ok i ∧ step s = exec i s)

/-- The example words of the assembler syntax (30_encoding.md R109). -/
def Obligations.SampleWordsDecode : Prop :=
  decode 0x00000000 = .ok .nop ∧ decode 0x01000000 = .ok .wipe ∧ decode 0x10120000 = .ok (.feUnpack 1 2) ∧
    decode 0x14312000 = .ok (.feMul 3 1 2) ∧ decode 0x16456000 = .ok (.feCmov 4 5 6) ∧
    decode 0x19730000 = .ok (.feParity 7 3) ∧ decode 0x31100000 = .ok (.scFrom64 1 0) ∧
    decode 0x40123000 = .ok (.geUnpackneg 1 2 3) ∧ decode 0x44004500 = .ok (.geMadd 0 0 4 5) ∧
    decode 0x46311220 = .ok (.geDsmul 3 1 1 2 2) ∧ decode 0x50012000 = .ok (.xLadder 0 1 2) ∧
    decode 0x60012300 = .ok (.saLdw 1 2 3) ∧ decode 0x62048C00 = .ok (.saQr 0 4 8 12) ∧
    decode 0x71012000 = .ok (.plBlock 1 2) ∧ decode 0x74901230 = .ok (.plVerify 9 0 1 2 3) ∧
    decode 0x83012345 = .ok (.xsXor 0 1 2 3 4 5)

/-! ## The step, the host and reset -/

/-- While BUSY = 1 and the port does not hold a never-held read or a reset, the step is the execution of the decoded command;
with such a read waiting, the free value of log 2 says whether the read or the command comes first. With BUSY = 0 and nothing
at the port, nothing changes (60_exceptions.md R365). -/
def Obligations.StepRunsTheDecodedCommand : Prop :=
  (∀ s : State, s.STATUS.busy = false → s.inputs = [] → step s = .next s) ∧
  ∀ (s : State) (i : Instr), s.STATUS.busy = true → decode s.CUR = .ok i → i.wellFormed = true →
    ((s.inputs = [] ∨ ∃ a later, s.inputs = .access a :: later ∧ a.neverHeld = false) → step s = exec i s) ∧
    ∀ a later, s.inputs = .access a :: later → a.neverHeld = true →
      step s =
        if Config.readServedWhileBusy s.draws = true then
          .next (State.perform { s with inputs := later, draws := s.draws + 1 } a)
        else exec i { s with draws := s.draws + 1 }

/-- A write of `w` to CMD: held while BUSY = 1, dropped while ERR = 1, else accepted; and what BUSY = 1 ends in
(10_state.md R52). -/
def Obligations.CommandWriteIsHeldDroppedOrAccepted : Prop :=
  ∀ (s : State) (w : Word) (later : List Input), s.inputs = .access (.write .word 0x01C w) :: later →
    (s.STATUS.busy = true →
      ∃ t, step s = .next t ∧ t.inputs = s.inputs ∧
        ((t.STATUS = { busy := false, done := true, err := s.STATUS.err } ∧ t.CAUSE = s.CAUSE ∧ t.ERRCMD = s.ERRCMD) ∨
          ∃ c, t = s.faulted c ∧ 1 ≤ c.toNat ∧ c.toNat ≤ 6)) ∧
    (s.STATUS.busy = false → s.STATUS.err = true →
      step s = .next { s with inputs := later, answer := .done }) ∧
    (s.STATUS.busy = false → s.STATUS.err = false →
      step s =
        .next { s with
          inputs := later
          answer := .done
          CUR := w
          STATUS := { busy := true, done := false, err := false } })

/-- While BUSY = 1, an access that is not a read of STATUS, ID or CFG waits until the command has ended, and the next step
performs it; a read of STATUS may be served while the command runs, and returns BUSY = 1 if it is. Whether it is, is the free
value of log 2, whatever its value (20_memory.md R83). -/
def Obligations.HeldAccessesWait : Prop :=
  ∀ (s : State) (a : Access) (later : List Input), s.STATUS.busy = true → s.inputs = .access a :: later →
    (a ≠ .read .word 0x00C → a ≠ .read .word 0x000 → a ≠ .read .word 0x004 →
      ∃ t, step s = .next t ∧ t.inputs = s.inputs ∧ t.answer = s.answer ∧ t.STATUS.busy = false ∧
        step t = .next (State.perform { t with inputs := later } a)) ∧
    (a = .read .word 0x00C →
      ∃ t, step s = .next t ∧
        if Config.readServedWhileBusy s.draws = true then
          ∃ v, t = { s with inputs := later, answer := .data v, draws := s.draws + 1 } ∧ v.getLsbD 0 = true
        else t.inputs = s.inputs ∧ t.answer = s.answer ∧ t.STATUS.busy = false)

/-- Reads change nothing but the answer, which is what `State.hostRead` gives, or a bus error; writes to the read-only registers
are ignored; an X register and a DMEM byte hold what was last written to them (20_memory.md R79, R80). That a byte is answered in
the low bits of a word whose other bits are 0 is the model's choice (log 10). -/
def Obligations.HostReadsChangeNothing : Prop :=
  ∀ s : State, s.STATUS.busy = false →
    (∀ width offset later, s.inputs = .access (.read width offset) :: later →
      (∀ v, s.hostRead width offset = some v → step s = .next { s with inputs := later, answer := .data v }) ∧
        (s.hostRead width offset = none → step s = .next { s with inputs := later, answer := .busError })) ∧
    (∀ offset v later, s.inputs = .access (.write .word offset v) :: later →
      offset ∈ [0x000, 0x004, 0x00C, 0x010, 0x014] → step s = .next { s with inputs := later, answer := .done }) ∧
    (∀ (i : XReg) v later,
      s.inputs = .access (.write .word (0x040 + 4 * i.val) v) :: .access (.read .word (0x040 + 4 * i.val)) :: later →
      ∃ t, step s = .next t ∧ step t = .next { s with X := s.X.set i v, inputs := later, answer := .data v }) ∧
    ∀ a v later, a < s.params.dmemBytes →
      s.inputs = .access (.write .byte (0x10000 + a) v) :: .access (.read .byte (0x10000 + a)) :: later →
      ∃ t u, step s = .next t ∧ step t = .next u ∧ u.answer = .data (v &&& 0xFF) ∧
        u = { s with DMEM := u.DMEM, inputs := later, answer := .data (v &&& 0xFF) } ∧
        ∀ x, u.DMEM.read x = if x = a then v.setWidth 8 else s.DMEM.read x

/-- The host's write of `v` to CLR, the return from a fault (60_exceptions.md R355). ERR is cleared by nothing else but a reset;
CAUSE and ERRCMD are changed by nothing else but a reset and the fault of the running command (10_state.md R49, R50). -/
def Obligations.ClrWriteReturnsFromFault : Prop :=
  (∀ (s : State) (v : Word) (later : List Input), s.inputs = .access (.write .word 0x018 v) :: later →
    (s.STATUS.busy = false →
      step s =
        .next { s with
          inputs := later
          answer := .done
          STATUS :=
            { busy := false
              done := if v.getLsbD 1 = true then false else s.STATUS.done
              err := if v.getLsbD 2 = true then false else s.STATUS.err }
          CAUSE := if v.getLsbD 2 = true then 0 else s.CAUSE
          ERRCMD := if v.getLsbD 2 = true then 0 else s.ERRCMD }) ∧
    (s.STATUS.busy = true →
      ∃ t, step s = .next t ∧ t.STATUS.busy = false ∧ t.inputs = s.inputs)) ∧
  ∀ s t : State, step s = .next t →
    (s.STATUS.err = true → t.STATUS.err = false →
      (∃ later, s.inputs = .reset :: later) ∨
        s.STATUS.busy = false ∧ ∃ v later, s.inputs = .access (.write .word 0x018 v) :: later ∧ v.getLsbD 2 = true) ∧
    (t.CAUSE ≠ s.CAUSE ∨ t.ERRCMD ≠ s.ERRCMD →
      (∃ later, s.inputs = .reset :: later) ∨
        (s.STATUS.busy = false ∧
          ∃ v later, s.inputs = .access (.write .word 0x018 v) :: later ∧ v.getLsbD 2 = true) ∨
        s.STATUS.busy = true ∧ t.STATUS.err = true ∧ 1 ≤ t.CAUSE.toNat ∧ t.CAUSE.toNat ≤ 6 ∧ t.ERRCMD = s.CUR)

/-- A misaligned access, one narrower than 32 bits to a register offset, or one to an undefined offset is answered with a bus
error and changes no state of the block (20_memory.md R76). -/
def Obligations.BusErrorsChangeNothing : Prop :=
  ∀ (s : State) (width : Width) (offset : Nat) (v : Word) (a : Access) (later : List Input), s.STATUS.busy = false →
    s.inputs = .access a :: later → (a = .read width offset ∨ a = .write width offset v) →
    ((width = .half ∧ offset % 2 ≠ 0) ∨ (width = .word ∧ offset % 4 ≠ 0) ∨ (width ≠ .word ∧ offset < 0x10000) ∨
      (0x020 ≤ offset ∧ offset < 0x040) ∨ (0x080 ≤ offset ∧ offset < 0x10000) ∨
      0x10000 + s.params.dmemBytes ≤ offset) →
    step s = .next { s with inputs := later, answer := .busError }

/-- An access of 1, 2 or 4 bytes, naturally aligned and inside the window, reads or writes DMEM bytes in little-endian order;
byte reads after a 32-bit write see its bytes (20_memory.md R73). A narrower access to a register offset is a bus error
(20_memory.md R76). That the bits above a narrow read's bytes are 0 is the model's choice (log 10). -/
def Obligations.WindowIsLittleEndian : Prop :=
  (∀ (s : State) (width : Width) (a n : Nat) (later : List Input), s.STATUS.busy = false →
    (width = .byte ∧ n = 1 ∨ width = .half ∧ n = 2 ∨ width = .word ∧ n = 4) → a % n = 0 →
    a + n ≤ s.params.dmemBytes →
    (s.inputs = .access (.read width (0x10000 + a)) :: later →
      ∃ v : Word, step s = .next { s with inputs := later, answer := .data v } ∧
        ∀ i < 4, v.toNat / 256 ^ i % 256 = if i < n then (s.DMEM.read (a + i)).toNat else 0) ∧
    ∀ v : Word, s.inputs = .access (.write width (0x10000 + a) v) :: later →
      ∃ t, step s = .next t ∧ t = { s with DMEM := t.DMEM, inputs := later, answer := .done } ∧
        (∀ i < n, (t.DMEM.read (a + i)).toNat = v.toNat / 256 ^ i % 256) ∧
        ∀ x, ¬(a ≤ x ∧ x < a + n) → t.DMEM.read x = s.DMEM.read x) ∧
  ∀ (s : State) (width : Width) (offset : Nat) (v : Word) (a : Access) (later : List Input), s.STATUS.busy = false →
    width ≠ .word → offset < 0x10000 → (a = .read width offset ∨ a = .write width offset v) →
    s.inputs = .access a :: later → step s = .next { s with inputs := later, answer := .busError }

/-- What the control registers read as, and that the step answers a word read with it; what a write to CTRL stores, and that the
step stores it; the interrupt output (10_state.md R46 to R50; 60_exceptions.md R352). CFG is the parameter DMEM_BYTES of the
instance, in the range of 00_scope.md R9. -/
def Obligations.ControlRegistersReadAndWrite : Prop :=
  ∀ s : State, s.params.wf = true →
    s.hostRead .word 0x000 = some 0x25519007 ∧
    (∃ v, s.hostRead .word 0x004 = some v ∧ v.toNat = s.params.dmemBytes) ∧
    (∃ v, s.hostRead .word 0x008 = some v ∧ v.toNat < 4 ∧ v.getLsbD 0 = s.CTRL.ieDone ∧ v.getLsbD 1 = s.CTRL.ieErr) ∧
    (∃ v, s.hostRead .word 0x00C = some v ∧ v.toNat < 8 ∧ v.getLsbD 0 = s.STATUS.busy ∧ v.getLsbD 1 = s.STATUS.done ∧
      v.getLsbD 2 = s.STATUS.err) ∧
    s.hostRead .word 0x010 = some s.CAUSE ∧ s.hostRead .word 0x014 = some s.ERRCMD ∧
    s.hostRead .word 0x018 = some 0 ∧ s.hostRead .word 0x01C = some 0 ∧
    (∀ i : XReg, s.hostRead .word (0x040 + 4 * i.val) = some s.X[i]) ∧
    (∀ v : Word, ∃ t, s.hostWrite .word 0x008 v = some t ∧
      t = { s with CTRL := { ieDone := v.getLsbD 0, ieErr := v.getLsbD 1 } } ∧
      t.hostRead .word 0x008 = some (v &&& 3)) ∧
    (s.irq = true ↔ (s.STATUS.done = true ∧ s.CTRL.ieDone = true) ∨ (s.STATUS.err = true ∧ s.CTRL.ieErr = true)) ∧
    (s.STATUS.busy = false →
      (∀ offset v later, s.inputs = .access (.read .word offset) :: later → s.hostRead .word offset = some v →
        step s = .next { s with inputs := later, answer := .data v }) ∧
      ∀ (v : Word) later, s.inputs = .access (.write .word 0x008 v) :: later →
        step s =
          .next { s with
            CTRL := { ieDone := v.getLsbD 0, ieErr := v.getLsbD 1 }
            inputs := later
            answer := .done })

/-- What a hardware reset leaves, in power-on state and from any state whatever it was doing (70_reset_and_hazards.md R381,
R382). -/
def Obligations.ResetValues : Prop :=
  ∀ t : State,
    (t = State.reset ∨ ∃ (s : State) (later : List Input), s.inputs = .reset :: later ∧ step s = .next t) →
    (∀ i : XReg, t.X[i] = 0) ∧ t.CTRL.word = 0 ∧ t.STATUS.word = 0 ∧ t.irq = false ∧ t.CAUSE = 0 ∧ t.ERRCMD = 0 ∧
      t.CUR = 0 ∧ t.hostRead .word 0x000 = some 0x25519007 ∧
      t.hostRead .word 0x004 = some (BitVec.ofNat 32 t.params.dmemBytes) ∧
      (∀ i : FReg, t.F[i] = ⟨false, 0⟩) ∧ (∀ i : SReg, t.S[i] = ⟨false, 0⟩) ∧ (∀ i : PReg, t.P[i] = ⟨false, ⟨0, 0⟩⟩) ∧
      (∀ i : WIdx, t.W[i] = 0) ∧ t.WV = false ∧ t.PH = 0 ∧ t.PR = 0 ∧ t.PS = 0 ∧ t.PV = false

/-- A reset input always leads to a next state, in which every byte of DMEM is the free value of the draw that the reset
takes (70_reset_and_hazards.md R380, R383; the model's choice of form: log 4 and log 11). -/
def Obligations.ResetDrawsDmem : Prop :=
  ∀ (s : State) (later : List Input), s.inputs = .reset :: later →
    ∃ t, step s = .next t ∧ t.params = s.params ∧ t.inputs = later ∧ t.STATUS.busy = false ∧ t.draws = s.draws + 1 ∧
      ∀ a, t.DMEM.read a = Config.dmemReset s.draws a

/-! ## Invariants and whole-machine rules -/

/-- Every step keeps the invariant of the state: the status bits, the fault record, canonical and zeroed registers, the
memory's form. -/
def Obligations.StepKeepsInv : Prop := ∀ s t : State, s.Inv → step s = .next t → t.Inv

/-- The invariant, and the on-curve invariant, hold after a reset of any instance. -/
def Obligations.ResetHasInv : Prop :=
  State.reset.Inv ∧ State.reset.PointsOnCurve ∧
    ∀ (c : Params) (k : Nat) (later : List Input), c.wf = true →
      (State.afterReset c k later).Inv ∧ (State.afterReset c k later).PointsOnCurve

/-- Every step keeps every valid point register on the curve (43_ge25519.md R192). -/
def Obligations.StepKeepsPointsOnCurve : Prop :=
  ∀ s t : State, s.PointsOnCurve → step s = .next t → t.PointsOnCurve

/-- `d y y + 1` is never 0, and neither are `1 + k` and `1 - k` for points of E (43_ge25519.md R190, R191). -/
def Obligations.CurveDenominatorsNeverVanish : Prop :=
  (∀ y : Nat, (edwardsD * (y * y) + 1) % p ≠ 0) ∧
    ∀ q r : Point, q.onCurve = true → r.onCurve = true →
      (1 + edwardsD * q.x * r.x * q.y * r.y) % p ≠ 0 ∧ edwardsD * q.x * r.x * q.y * r.y % p ≠ 1

/-- On points of E the law is closed and commutative, (0, 1) is neutral, and `((p - x) mod p, y)` is the negative of (x, y)
(43_ge25519.md R191). -/
def Obligations.CurveLawHoldsOnPoints : Prop :=
  ∀ q r : Point, q.onCurve = true → r.onCurve = true →
    (q.add r).onCurve = true ∧ q.add r = r.add q ∧ q.add ⟨0, 1⟩ = q ∧ q.add ⟨(p - q.x) % p, q.y⟩ = ⟨0, 1⟩

/-- `k·P` is P added to itself k times from the neutral point (43_ge25519.md R191); the model computes it by doubling and
adding (log 8). -/
def Obligations.MultiplesAreRepeatedSums : Prop :=
  ∀ q : Point, q.onCurve = true →
    Point.smul 0 q = ⟨0, 1⟩ ∧ ∀ k : Nat, Point.smul (k + 1) q = (Point.smul k q).add q

/-- Every command but WIPE changes nothing but the registers and bytes that the spec's tables let it write, the status bits
and, where it faults, the fault record (20_memory.md R77; 10_state.md R22, R28 to R30, R35, R38; 60_exceptions.md R343). -/
def Obligations.FrameOfEveryCommand : Prop :=
  ∀ (i : Instr) (s t : State), i ≠ .wipe → exec i s = .next t →
    Frame (s.touched i) s t ∧ t.params = s.params ∧ t.CTRL = s.CTRL ∧ t.CUR = s.CUR ∧ t.inputs = s.inputs ∧
      t.answer = s.answer ∧ t.draws = s.draws ∧
      ((t.STATUS = { busy := false, done := true, err := s.STATUS.err } ∧ t.CAUSE = s.CAUSE ∧ t.ERRCMD = s.ERRCMD) ∨
        ∃ c, t = s.faulted c ∧ 1 ≤ c.toNat ∧ c.toNat ≤ 6)

/-- No command reads or writes CTRL (10_state.md R48). -/
def Obligations.CommandsIgnoreCtrl : Prop :=
  ∀ (i : Instr) (s : State) (c : Ctrl), ∃ t, exec i s = .next t ∧ t.CTRL = s.CTRL ∧
    exec i { s with CTRL := c } = .next { t with CTRL := c }

/-- A command but WIPE writes an X register only with 0 or 1, and only FE.ISEQ, FE.PARITY, GE.UNPACKNEG and PL.VERIFY do, each
its own result register (10_state.md R22). -/
def Obligations.CommandsWriteOnlyTruthValuesToX : Prop :=
  ∀ (i : Instr) (s t : State) (j : XReg), i ≠ .wipe → exec i s = .next t → t.X[j] ≠ s.X[j] →
    (t.X[j] = 0 ∨ t.X[j] = 1) ∧
      ((∃ a b, i = .feIseq j a b) ∨ (∃ a, i = .feParity j a) ∨ (∃ d a, i = .geUnpackneg d a j) ∨
        ∃ a b c e, i = .plVerify j a b c e)

/-- What the host can be answered depends on no typed register, no working word, no Poly1305 state and not on the held word
(60_exceptions.md R364; 10_state.md R51). -/
def Obligations.HostSeesNoTypedRegister : Prop :=
  ∀ (s s' : State) (a : Access), s.params = s'.params → s.X = s'.X → s.CTRL = s'.CTRL → s.STATUS = s'.STATUS →
    s.CAUSE = s'.CAUSE → s.ERRCMD = s'.ERRCMD → (∀ x, s.DMEM.read x = s'.DMEM.read x) →
    (s.perform a).answer = (s'.perform a).answer ∧ (s.perform a).X = (s'.perform a).X ∧
      (s.perform a).irq = (s'.perform a).irq ∧ ∀ x, (s.perform a).DMEM.read x = (s'.perform a).DMEM.read x

/-! ## Faults -/

/-- From step 3 on, a command ends with the first fault that the step order meets, or completes (30_encoding.md R108;
60_exceptions.md R350). The checks are those of Sys2Proof/Safety.lean, written from the spec's tables. -/
def Obligations.ChecksRunInTheStepOrder : Prop :=
  ∀ (i : Instr) (s : State),
    (s.sourcesValid i = false → exec i s = .next (s.faulted 3)) ∧
    (s.sourcesValid i = true →
      (s.valueFault i = some .badLength → exec i s = .next (s.faulted 5)) ∧
      (s.valueFault i = some .badValue → exec i s = .next (s.faulted 6)) ∧
      (s.valueFault i = none →
        (¬(∀ r ∈ s.operandRanges i, r.2 = 0 ∨ r.1 + r.2 ≤ s.params.dmemBytes) → exec i s = .next (s.faulted 4)) ∧
        ((∀ r ∈ s.operandRanges i, r.2 = 0 ∨ r.1 + r.2 ≤ s.params.dmemBytes) →
          (s.digitLegal i = false → exec i s = .next (s.faulted 6)) ∧
          (s.digitLegal i = true →
            ∃ t, exec i s = .next t ∧ t.STATUS = { busy := false, done := true, err := s.STATUS.err } ∧
              t.CAUSE = s.CAUSE ∧ t.ERRCMD = s.ERRCMD))))

/-- A step that ends a command with ERR = 1 changes nothing but the fault record, whose cause is one of the six codes and
whose word is the one that was running (60_exceptions.md R343, R344). -/
def Obligations.FaultsArePrecise : Prop :=
  ∀ s t : State, s.STATUS.busy = true → s.STATUS.done = false → s.STATUS.err = false → s.inputs = [] →
    step s = .next t → t.STATUS.err = true →
    1 ≤ t.CAUSE.toNat ∧ t.CAUSE.toNat ≤ 6 ∧
      t = { s with STATUS := { busy := false, done := false, err := true }, CAUSE := t.CAUSE, ERRCMD := s.CUR }

/-- UNINIT: exactly if a source register, or the unit state the command reads, is not valid; a register that is only written
is never checked (60_exceptions.md R346). -/
def Obligations.UninitFaults : Prop :=
  ∀ (i : Instr) (s : State), s.STATUS.err = false →
    (exec i s = .next (s.faulted 3) ↔ s.sourcesValid i = false) ∧
      ∀ (d a : FReg) (x y z : XReg),
        (s.sourcesValid (.feCmov d a x) = true ↔ s.F[d].valid = true ∧ s.F[a].valid = true) ∧
        (s.sourcesValid .saDround = true ↔ s.WV = true) ∧ (s.sourcesValid (.plFinal x) = true ↔ s.PV = true) ∧
        s.sourcesValid (.feUnpack d x) = true ∧ s.sourcesValid (.saLdw x y z) = true ∧
        s.sourcesValid (.plInit x) = true

/-- ADDR_RANGE of FE.UNPACK and of S20.XOR: the sum of address and length is taken in unbounded integers, and a zero length is
legal at any address (60_exceptions.md R347; 20_memory.md R74). -/
def Obligations.AddressSumsDoNotWrap : Prop :=
  ∀ (s : State) (a b c d e f : XReg) (g : FReg), s.STATUS.err = false →
    (exec (.feUnpack g a) s = .next (s.faulted 4) ↔ s.params.dmemBytes < s.X[a].toNat + 32) ∧
    (s.X[f].toNat ≤ 63 → s.X[c].toNat + 8 ≤ s.params.dmemBytes → s.X[e].toNat + 32 ≤ s.params.dmemBytes →
      (exec (.s20Xor d a b c e f) s = .next (s.faulted 4) ↔
        (s.X[b].toNat ≠ 0 ∧ s.params.dmemBytes < s.X[a].toNat + s.X[b].toNat) ∨
          (s.X[f].toNat + s.X[b].toNat ≠ 0 ∧
            s.params.dmemBytes < s.X[d].toNat + s.X[f].toNat + s.X[b].toNat)))

/-- BAD_LENGTH of PL.BLOCK and BAD_VALUE of FE.CMOV and the XOR commands, when the registers they read are valid, and the
order of GE.MADD's four faults (60_exceptions.md R348, R349, R350). -/
def Obligations.LengthAndValueFaults : Prop :=
  ∀ (s : State) (a b c e f x : XReg) (d g : FReg) (q r : PReg),
    (s.PV = true → s.X[b].toNat = 0 ∨ 16 < s.X[b].toNat → exec (.plBlock a b) s = .next (s.faulted 5)) ∧
    (s.F[d].valid = true → s.F[g].valid = true → 1 < s.X[b].toNat → exec (.feCmov d g b) s = .next (s.faulted 6)) ∧
    (63 < s.X[f].toNat → exec (.s20Xor x a b c e f) s = .next (s.faulted 6) ∧
      exec (.xsXor x a b c e f) s = .next (s.faulted 6)) ∧
    (s.P[r].valid = false → exec (.geMadd q r b c) s = .next (s.faulted 3)) ∧
    (s.P[r].valid = true → 84 < s.X[b].toNat → exec (.geMadd q r b c) s = .next (s.faulted 6)) ∧
    (s.P[r].valid = true → s.X[b].toNat ≤ 84 → s.params.dmemBytes < s.X[c].toNat + 1 →
      exec (.geMadd q r b c) s = .next (s.faulted 4)) ∧
    (s.P[r].valid = true → s.X[b].toNat ≤ 84 → s.X[c].toNat + 1 ≤ s.params.dmemBytes →
      s.DMEM.read s.X[c].toNat ∉ [0xfc, 0xfd, 0xfe, 0xff, 0x00, 0x01, 0x02, 0x03, 0x04] →
      exec (.geMadd q r b c) s = .next (s.faulted 6))

/-! ## System commands -/

/-- NOP has no effect but its completion; WIPE clears the data state and not CTRL, and a second WIPE changes nothing
(40_system.md R131, R132). -/
def Obligations.NopAndWipeResults : Prop :=
  ∀ s : State,
    exec .nop s = .next { s with STATUS := { busy := false, done := true, err := s.STATUS.err } } ∧
    ∃ t, exec .wipe s = .next t ∧ SameControl s t ∧
      t.STATUS = { busy := false, done := true, err := s.STATUS.err } ∧ (∀ i : XReg, t.X[i] = 0) ∧
      (∀ i : FReg, t.F[i] = ⟨false, 0⟩) ∧ (∀ i : SReg, t.S[i] = ⟨false, 0⟩) ∧ (∀ i : PReg, t.P[i] = ⟨false, ⟨0, 0⟩⟩) ∧
      (∀ i : WIdx, t.W[i] = 0) ∧ t.WV = false ∧ t.PH = 0 ∧ t.PR = 0 ∧ t.PS = 0 ∧ t.PV = false ∧
      (∀ a, t.DMEM.read a = 0) ∧ exec .wipe t = .next t

/-! ## Field commands -/

/-- FE.UNPACK drops bit 255 and reduces; FE.PACK stores the canonical value, little-endian (41_fe25519.md R142, R143). -/
def Obligations.FieldLoadAndStore : Prop :=
  ∀ s : State,
    (∀ (d : FReg) (a : XReg), s.xVal a + 32 ≤ s.params.dmemBytes →
      ∃ t, exec (.feUnpack d a) s = .next t ∧ Completes { f := [d] } s t ∧
        t.F[d] = ⟨true, leVal (s.DMEM.readBytes (s.xVal a) 32) % 2 ^ 255 % p⟩) ∧
    ∀ (d : XReg) (a : FReg), s.Inv → s.F[a].valid = true → s.xVal d + 32 ≤ s.params.dmemBytes →
      ∃ t, exec (.fePack d a) s = .next t ∧ Completes { base := s.xVal d, count := 32 } s t ∧
        leVal (t.DMEM.readBytes (s.xVal d) 32) = s.F[a].value

/-- FE.ADD, FE.SUB, FE.MUL and FE.SQ are exact arithmetic in GF(p), whichever of their registers coincide (41_fe25519.md R144
to R147; 10_state.md R31). -/
def Obligations.FieldArithmetic : Prop :=
  ∀ (s : State) (d a b : FReg), s.F[a].valid = true →
    (s.F[b].valid = true →
      (∃ t, exec (.feAdd d a b) s = .next t ∧ Completes { f := [d] } s t ∧
        t.F[d] = ⟨true, (s.F[a].value + s.F[b].value) % p⟩) ∧
      (∃ t v, exec (.feSub d a b) s = .next t ∧ Completes { f := [d] } s t ∧ t.F[d] = ⟨true, v⟩ ∧
        (v : Int) = ((s.F[a].value : Int) - s.F[b].value) % p) ∧
      ∃ t, exec (.feMul d a b) s = .next t ∧ Completes { f := [d] } s t ∧
        t.F[d] = ⟨true, s.F[a].value * s.F[b].value % p⟩) ∧
    ∃ t, exec (.feSq d a) s = .next t ∧ Completes { f := [d] } s t ∧
      t.F[d] = ⟨true, s.F[a].value * s.F[a].value % p⟩

/-- FE.CMOV with the condition 0 or 1; FE.ISEQ and FE.PARITY write 0 or 1 into an X register (41_fe25519.md R148 to
R150). -/
def Obligations.FieldMoveAndPredicates : Prop :=
  ∀ (s : State) (d a b : FReg) (x : XReg), s.F[a].valid = true →
    (s.F[d].valid = true → s.X[x].toNat ≤ 1 →
      ∃ t, exec (.feCmov d a x) s = .next t ∧ Completes { f := [d] } s t ∧
        (s.X[x].toNat = 1 → t.F[d] = s.F[a]) ∧ (s.X[x].toNat = 0 → t.F[d] = s.F[d])) ∧
    (s.F[b].valid = true →
      ∃ t, exec (.feIseq x a b) s = .next t ∧ Completes { x := [x] } s t ∧
        t.X[x] = if s.F[a].value = s.F[b].value then 1 else 0) ∧
    ∃ t, exec (.feParity x a) s = .next t ∧ Completes { x := [x] } s t ∧ t.X[x].toNat = s.F[a].value % 2

/-- FE.INV raises to the power p - 2 and FE.POW2523 to the power (p - 5)/8 (41_fe25519.md R152, R153). -/
def Obligations.FieldPowers : Prop :=
  ∀ (s : State) (d a : FReg), s.F[a].valid = true →
    (∃ t, exec (.feInv d a) s = .next t ∧ Completes { f := [d] } s t ∧
      t.F[d] = ⟨true, s.F[a].value ^ (p - 2) % p⟩) ∧
    ∃ t, exec (.fePow2523 d a) s = .next t ∧ Completes { f := [d] } s t ∧
      t.F[d] = ⟨true, s.F[a].value ^ ((p - 5) / 8) % p⟩

/-- FE.INV gives the multiplicative inverse of a nonzero element, and 0 for 0 with no fault (41_fe25519.md R152). -/
def Obligations.FieldInverseInverts : Prop :=
  ∀ (s : State) (d a : FReg), s.Inv → s.F[a].valid = true →
    ∃ t, exec (.feInv d a) s = .next t ∧ t.STATUS.err = s.STATUS.err ∧ t.F[d].valid = true ∧ t.F[d].value < p ∧
      (s.F[a].value = 0 → t.F[d].value = 0) ∧ (s.F[a].value ≠ 0 → s.F[a].value * t.F[d].value % p = 1)

/-! ## Scalar commands -/

/-- SC.FROM32 and SC.FROM64 reduce all their bits; SC.TO32 stores the canonical value (42_sc25519.md R172 to R174). -/
def Obligations.ScalarLoadAndStore : Prop :=
  ∀ s : State,
    (∀ (d : SReg) (a : XReg),
      (s.xVal a + 32 ≤ s.params.dmemBytes →
        ∃ t, exec (.scFrom32 d a) s = .next t ∧ Completes { s := [d] } s t ∧
          t.S[d] = ⟨true, leVal (s.DMEM.readBytes (s.xVal a) 32) % ell⟩) ∧
      (s.xVal a + 64 ≤ s.params.dmemBytes →
        ∃ t, exec (.scFrom64 d a) s = .next t ∧ Completes { s := [d] } s t ∧
          t.S[d] = ⟨true, leVal (s.DMEM.readBytes (s.xVal a) 64) % ell⟩)) ∧
    ∀ (d : XReg) (a : SReg), s.Inv → s.S[a].valid = true → s.xVal d + 32 ≤ s.params.dmemBytes →
      ∃ t, exec (.scTo32 d a) s = .next t ∧ Completes { base := s.xVal d, count := 32 } s t ∧
        leVal (t.DMEM.readBytes (s.xVal d) 32) = s.S[a].value

/-- SC.ADD and SC.MUL (42_sc25519.md R175, R176). -/
def Obligations.ScalarArithmetic : Prop :=
  ∀ (s : State) (d a b : SReg), s.S[a].valid = true → s.S[b].valid = true →
    (∃ t, exec (.scAdd d a b) s = .next t ∧ Completes { s := [d] } s t ∧
      t.S[d] = ⟨true, (s.S[a].value + s.S[b].value) % ell⟩) ∧
    ∃ t, exec (.scMul d a b) s = .next t ∧ Completes { s := [d] } s t ∧
      t.S[d] = ⟨true, s.S[a].value * s.S[b].value % ell⟩

/-- SC.WINDOW3 writes the 85 signed digits, one two's complement byte each, digits 0 to 83 in -4 .. 3 and digit 84 in 0 .. 1;
their base-8 sum is the scalar exactly (42_sc25519.md R177). -/
def Obligations.Window3Digits : Prop :=
  ∀ (s : State) (d : XReg) (a : SReg), s.Inv → s.S[a].valid = true → s.xVal d + 85 ≤ s.params.dmemBytes →
    ∃ (t : State) (r : Nat → Int), exec (.scWindow3 d a) s = .next t ∧ Completes { base := s.xVal d, count := 85 } s t ∧
      (∀ i < 85, signed8 (t.DMEM.read (s.xVal d + i)) = r i) ∧ (∀ i < 84, -4 ≤ r i ∧ r i ≤ 3) ∧
      (r 84 = 0 ∨ r 84 = 1) ∧ ∑ i ∈ Finset.range 85, r i * 8 ^ i = s.S[a].value

/-- SC.INTLV2 writes the 127 nibbles of the two scalars' base-4 digits, from which both scalars are read back exactly
(42_sc25519.md R178). -/
def Obligations.InterleavedDigits : Prop :=
  ∀ (s : State) (d : XReg) (a b : SReg), s.Inv → s.S[a].valid = true → s.S[b].valid = true →
    s.xVal d + 127 ≤ s.params.dmemBytes →
    ∃ (t : State) (n : Nat → Nat), exec (.scIntlv2 d a b) s = .next t ∧
      Completes { base := s.xVal d, count := 127 } s t ∧
      (∀ i < 127, (t.DMEM.read (s.xVal d + i)).toNat = n i ∧
        n i = s.S[a].value / 4 ^ i % 4 + 4 * (s.S[b].value / 4 ^ i % 4)) ∧
      ∑ i ∈ Finset.range 127, n i % 4 * 4 ^ i = s.S[a].value ∧
      ∑ i ∈ Finset.range 127, n i / 4 * 4 ^ i = s.S[b].value

/-! ## Group commands -/

/-- GE.UNPACKNEG decides whether there is a root at all, takes the root of the other parity (0 if num = 0), and writes its
flag; without a root it invalidates the destination (43_ge25519.md R193). -/
def Obligations.UnpackNegatedPoint : Prop :=
  ∀ (s : State) (d : PReg) (a b : XReg) (y num den par : Nat), s.xVal a + 32 ≤ s.params.dmemBytes →
    par = leVal (s.DMEM.readBytes (s.xVal a) 32) / 2 ^ 255 →
    y = leVal (s.DMEM.readBytes (s.xVal a) 32) % 2 ^ 255 % p → num = (y * y + (p - 1)) % p →
    den = (edwardsD * y * y + 1) % p →
    ((¬∃ x < p, x * x * den % p = num) →
      ∃ t, exec (.geUnpackneg d a b) s = .next t ∧ Completes { x := [b], p := [d] } s t ∧ t.X[b] = 0 ∧
        t.P[d] = ⟨false, ⟨0, 0⟩⟩) ∧
    ((∃ x < p, x * x * den % p = num) →
      ∃ t x, exec (.geUnpackneg d a b) s = .next t ∧ Completes { x := [b], p := [d] } s t ∧ t.X[b] = 1 ∧
        t.P[d] = ⟨true, ⟨x, y⟩⟩ ∧ x < p ∧ x * x * den % p = num ∧ (num ≠ 0 → x % 2 = 1 - par) ∧ (num = 0 → x = 0))

/-- GE.PACK stores y with the parity of x in bit 255 (43_ge25519.md R194). -/
def Obligations.PackPoint : Prop :=
  ∀ (s : State) (d : XReg) (a : PReg), s.Inv → s.P[a].valid = true → s.xVal d + 32 ≤ s.params.dmemBytes →
    ∃ t, exec (.gePack d a) s = .next t ∧ Completes { base := s.xVal d, count := 32 } s t ∧
      leVal (t.DMEM.readBytes (s.xVal d) 32) = s.P[a].value.y + 2 ^ 255 * (s.P[a].value.x % 2)

/-- GE.ADD and GE.DBL compute the law of 43_ge25519.md R191, with `u^(-1) = u^(p-2)`, all arithmetic in GF(p) (R195,
R196). -/
def Obligations.PointAddition : Prop :=
  ∀ (s : State) (d a b : PReg) (x1 y1 x2 y2 : Nat), s.P[a] = ⟨true, ⟨x1, y1⟩⟩ → s.P[b] = ⟨true, ⟨x2, y2⟩⟩ →
    ∃ t x3 y3, exec (.geAdd d a b) s = .next t ∧ Completes { p := [d] } s t ∧ t.P[d] = ⟨true, ⟨x3, y3⟩⟩ ∧
      x3 < p ∧ y3 < p ∧
      (x3 : ZMod p) = (x1 * y2 + x2 * y1) * (1 + (edwardsD : ZMod p) * x1 * x2 * y1 * y2) ^ (p - 2) ∧
      (y3 : ZMod p) = (y1 * y2 + x1 * x2) * (1 - (edwardsD : ZMod p) * x1 * x2 * y1 * y2) ^ (p - 2) ∧
      ∃ u, exec (.geDbl d a) s = .next u ∧ Completes { p := [d] } s u ∧ exec (.geAdd d a a) s = .next u

/-- GE.MADD adds `g·8^pos·B`, negated for a negative digit, to a point (43_ge25519.md R197, R198; 10_state.md R45). -/
def Obligations.MixedAddition : Prop :=
  ∀ (s : State) (d a : PReg) (b c : XReg) (g : Int), s.P[a].valid = true → s.X[b].toNat ≤ 84 →
    s.X[c].toNat + 1 ≤ s.params.dmemBytes → g = signed8 (s.DMEM.read s.X[c].toNat) → -4 ≤ g → g ≤ 4 →
    ∃ t, exec (.geMadd d a b c) s = .next t ∧ Completes { p := [d] } s t ∧
      (0 ≤ g → t.P[d] = ⟨true, s.P[a].value.add (Point.smul (g.natAbs * 8 ^ s.X[b].toNat) ⟨baseX, baseY⟩)⟩) ∧
      (g < 0 → t.P[d] = ⟨true, s.P[a].value.add (Point.smul (g.natAbs * 8 ^ s.X[b].toNat) ⟨baseX, baseY⟩).neg⟩)

/-- GE.SMULBASE gives `s·B` and GE.DSMUL gives `s1·P1 + s2·P2` (43_ge25519.md R199, R200). -/
def Obligations.ScalarMultiples : Prop :=
  ∀ (s : State) (d a c : PReg) (b e : SReg), s.S[b].valid = true →
    (∃ t, exec (.geSmulbase d b) s = .next t ∧ Completes { p := [d] } s t ∧
      t.P[d] = ⟨true, Point.smul s.S[b].value ⟨baseX, baseY⟩⟩) ∧
    (s.P[a].valid = true → s.P[c].valid = true → s.S[e].valid = true →
      ∃ t, exec (.geDsmul d a b c e) s = .next t ∧ Completes { p := [d] } s t ∧
        t.P[d] = ⟨true, (Point.smul s.S[b].value s.P[a].value).add (Point.smul s.S[e].value s.P[c].value)⟩)

/-- GE.SMULBASE gives what the loop over the 85 window3 digits of the scalar gives (43_ge25519.md R199). -/
def Obligations.FixedBaseLoop : Prop :=
  ∀ (s : State) (d : PReg) (a : SReg), s.Inv → s.S[a].valid = true →
    ∃ t, exec (.geSmulbase d a) s = .next t ∧
      t.P[d] = ⟨true, (List.range 85).foldl (fun q i => q.add (chooseT i ((window3 s.S[a].value).getD i 0))) ⟨0, 1⟩⟩

/-! ## Ladder commands -/

/-- X.LADDER and X.BASE: the scalar is clamped byte by byte, the point string is decoded as the instance's parameter says,
and the result is stored little-endian (44_curve25519.md R221, R222, R224, R225). `ladder k u` is the loop of R223: `q pos` holds
(x2, z2, x3, z3) after the pass for bit `pos`, `q 255` before the first pass. -/
def Obligations.LadderResults : Prop :=
  (∀ (s : State) (d a b : XReg) (k : Nat),
    k = leVal ((((s.DMEM.readBytes (s.xVal a) 32).set 0 (s.DMEM.read (s.xVal a) &&& 248)).set 31
      (s.DMEM.read (s.xVal a + 31) &&& 127 ||| 64))) →
    s.xVal a + 32 ≤ s.params.dmemBytes → s.xVal d + 32 ≤ s.params.dmemBytes →
    (s.xVal b + 32 ≤ s.params.dmemBytes →
      ∃ t, exec (.xLadder d a b) s = .next t ∧ Completes { base := s.xVal d, count := 32 } s t ∧
        leVal (t.DMEM.readBytes (s.xVal d) 32) =
          ladder k ((if s.params.x25519MaskU255 = true then leVal (s.DMEM.readBytes (s.xVal b) 32) % 2 ^ 255
            else leVal (s.DMEM.readBytes (s.xVal b) 32)) % p)) ∧
    ∃ t, exec (.xBase d a) s = .next t ∧ Completes { base := s.xVal d, count := 32 } s t ∧
      leVal (t.DMEM.readBytes (s.xVal d) 32) = ladder k 9) ∧
  ∀ k u : Nat, ∃ q : Nat → ZMod p × ZMod p × ZMod p × ZMod p,
    q 255 = (1, 0, (u : ZMod p), 1) ∧
    (∀ pos < 255, ∃ x2 z2 x3 z3 : ZMod p,
      swapPairs (k.testBit pos) (q (pos + 1)) = (x2, z2, x3, z3) ∧
      q pos = swapPairs (k.testBit pos)
        ((x2 + z2) ^ 2 * (x2 - z2) ^ 2,
          ((x2 + z2) ^ 2 - (x2 - z2) ^ 2) * ((x2 + z2) ^ 2 + 121665 * ((x2 + z2) ^ 2 - (x2 - z2) ^ 2)),
          ((x3 - z3) * (x2 + z2) + (x3 + z3) * (x2 - z2)) ^ 2,
          u * ((x3 - z3) * (x2 + z2) - (x3 + z3) * (x2 - z2)) ^ 2)) ∧
    ladder k u < p ∧ (ladder k u : ZMod p) = (q 0).1 * (q 0).2.1 ^ (p - 2)

/-- A point string that decodes to 0 under the instance's parameter gives 32 zero bytes and no fault, whatever the scalar
(44_curve25519.md R222, R224, corner case b). -/
def Obligations.LadderOfZeroIsZero : Prop :=
  ∀ (s : State) (d a b : XReg), s.xVal a + 32 ≤ s.params.dmemBytes → s.xVal b + 32 ≤ s.params.dmemBytes →
    s.xVal d + 32 ≤ s.params.dmemBytes →
    (if s.params.x25519MaskU255 = true then leVal (s.DMEM.readBytes (s.xVal b) 32) % 2 ^ 255
      else leVal (s.DMEM.readBytes (s.xVal b) 32)) % p = 0 →
    ∃ t, exec (.xLadder d a b) s = .next t ∧ t.STATUS = { busy := false, done := true, err := s.STATUS.err } ∧
      ∀ i < 32, t.DMEM.read (s.xVal d + i) = 0

/-- A point string that decodes to 1, to p - 1 or to the u-coordinate of a point of order 8 (one whose double has u = 1) gives 32
zero bytes and no fault, whatever the scalar (44_curve25519.md R224, corner case b; the curve of R223). -/
def Obligations.LadderOfSmallOrderIsZero : Prop :=
  ∀ (s : State) (d a b : XReg) (u : Nat), s.xVal a + 32 ≤ s.params.dmemBytes → s.xVal b + 32 ≤ s.params.dmemBytes →
    s.xVal d + 32 ≤ s.params.dmemBytes →
    u = (if s.params.x25519MaskU255 = true then leVal (s.DMEM.readBytes (s.xVal b) 32) % 2 ^ 255
      else leVal (s.DMEM.readBytes (s.xVal b) 32)) % p →
    (u = 1 ∨ u = p - 1 ∨ ((u : ZMod p) ^ 2 - 1) ^ 2 = 4 * u * ((u : ZMod p) ^ 2 + 486662 * u + 1)) →
    ∃ t, exec (.xLadder d a b) s = .next t ∧ t.STATUS = { busy := false, done := true, err := s.STATUS.err } ∧
      ∀ i < 32, t.DMEM.read (s.xVal d + i) = 0

/-! ## Salsa20 commands -/

/-- SA.LDW loads the sixteen words, SA.ADDW adds sixteen words, SA.STW stores them, all little-endian (45_salsa20.md R236,
R238, R239, R242). -/
def Obligations.SalsaWords : Prop :=
  ∀ (s : State) (a b c d : XReg),
    (s.xVal a + 16 ≤ s.params.dmemBytes → s.xVal b + 32 ≤ s.params.dmemBytes → s.xVal c + 16 ≤ s.params.dmemBytes →
      ∃ t, exec (.saLdw a b c) s = .next t ∧ Completes { w := true } s t ∧ t.WV = true ∧
        (∀ j : Fin 4,
          (t.W[5 * j.val]).toNat = leVal (s.DMEM.readBytes (s.xVal c + 4 * j.val) 4) ∧
          (t.W[1 + j.val]).toNat = leVal (s.DMEM.readBytes (s.xVal b + 4 * j.val) 4) ∧
          (t.W[11 + j.val]'(by omega)).toNat =
            leVal (s.DMEM.readBytes (s.xVal b + 16 + 4 * j.val) 4) ∧
          (t.W[6 + j.val]).toNat = leVal (s.DMEM.readBytes (s.xVal a + 4 * j.val) 4))) ∧
    (s.WV = true → s.xVal a + 64 ≤ s.params.dmemBytes →
      ∃ t, exec (.saAddw a) s = .next t ∧ Completes { w := true } s t ∧ t.WV = true ∧
        ∀ j : WIdx, (t.W[j]).toNat = ((s.W[j]).toNat + leVal (s.DMEM.readBytes (s.xVal a + 4 * j.val) 4)) % 2 ^ 32) ∧
    (s.WV = true → s.xVal d + 64 ≤ s.params.dmemBytes →
      ∃ t, exec (.saStw d) s = .next t ∧ Completes { base := s.xVal d, count := 64 } s t ∧
        ∀ j : WIdx, leVal (t.DMEM.readBytes (s.xVal d + 4 * j.val) 4) = (s.W[j]).toNat)

/-- SA.QR runs the four statements of the quarter-round, in order, on whatever words its indices name: `v0`, .., `v4` are the words
before the first and after each. On distinct indices that is the Salsa20 quarter-round with rotations 7, 9, 13, 18, and on four
equal ones the word is updated four times in turn (45_salsa20.md R237, R240). -/
def Obligations.QuarterRound : Prop :=
  ∀ (s : State) (i0 i1 i2 i3 : WIdx), s.WV = true →
    ∃ t, exec (.saQr i0 i1 i2 i3) s = .next t ∧ Completes { w := true } s t ∧ t.WV = true ∧
      (∀ j : WIdx, j ∉ [i0, i1, i2, i3] → t.W[j] = s.W[j]) ∧
      (∃ v0 v1 v2 v3 v4 : WIdx → Word, (∀ j : WIdx, v0 j = s.W[j]) ∧
        v1 = Function.update v0 i1 (v0 i1 ^^^ (v0 i0 + v0 i3).rotateLeft 7) ∧
        v2 = Function.update v1 i2 (v1 i2 ^^^ (v1 i1 + v1 i0).rotateLeft 9) ∧
        v3 = Function.update v2 i3 (v2 i3 ^^^ (v2 i2 + v2 i1).rotateLeft 13) ∧
        v4 = Function.update v3 i0 (v3 i0 ^^^ (v3 i3 + v3 i2).rotateLeft 18) ∧
        ∀ j : WIdx, t.W[j] = v4 j) ∧
      ([i0, i1, i2, i3].Nodup →
        t.W[i1] = s.W[i1] ^^^ (s.W[i0] + s.W[i3]).rotateLeft 7 ∧
        t.W[i2] = s.W[i2] ^^^ (t.W[i1] + s.W[i0]).rotateLeft 9 ∧
        t.W[i3] = s.W[i3] ^^^ (t.W[i2] + t.W[i1]).rotateLeft 13 ∧
        t.W[i0] = s.W[i0] ^^^ (t.W[i3] + t.W[i2]).rotateLeft 18) ∧
      (i0 = i1 → i1 = i2 → i2 = i3 →
        t.W[i0] = [7, 9, 13, 18].foldl (fun v c => v ^^^ (v + v).rotateLeft c) s.W[i0])

/-- SA.DROUND is the eight SA.QR commands of its column step and row step, in order (45_salsa20.md R237, R241). -/
def Obligations.DoubleRoundIsEightQuarterRounds : Prop :=
  ∀ s : State, s.WV = true →
    ∃ t, exec .saDround s = .next t ∧ Completes { w := true } s t ∧ t.WV = true ∧
      execAll
        [.saQr 0 4 8 12, .saQr 5 9 13 1, .saQr 10 14 2 6, .saQr 15 3 7 11,
         .saQr 0 1 2 3, .saQr 5 6 7 4, .saQr 10 11 8 9, .saQr 15 12 13 14] s = .next t

/-- SA.CORE stores word by word the sum of the words after ten double-rounds and the loaded words, SA.HCORE eight of the
former without the sum; both invalidate W (45_salsa20.md R243, R244). -/
def Obligations.SalsaComposites : Prop :=
  ∀ (s : State) (d a b c : XReg) (w r : Vector Word 16),
    w = salsaLoad (s.DMEM.readBytes (s.xVal a) 16) (s.DMEM.readBytes (s.xVal b) 32) (s.DMEM.readBytes (s.xVal c) 16) →
    r = doubleRounds 10 w → s.xVal a + 16 ≤ s.params.dmemBytes → s.xVal b + 32 ≤ s.params.dmemBytes →
    s.xVal c + 16 ≤ s.params.dmemBytes →
    (s.xVal d + 64 ≤ s.params.dmemBytes →
      ∃ t, exec (.saCore d a b c) s = .next t ∧ Completes { w := true, base := s.xVal d, count := 64 } s t ∧
        t.WV = false ∧ (∀ j : WIdx, t.W[j] = 0) ∧
        ∀ j : WIdx, leVal (t.DMEM.readBytes (s.xVal d + 4 * j.val) 4) = ((r[j]).toNat + (w[j]).toNat) % 2 ^ 32) ∧
    (s.xVal d + 32 ≤ s.params.dmemBytes →
      ∃ t, exec (.saHcore d a b c) s = .next t ∧ Completes { w := true, base := s.xVal d, count := 32 } s t ∧
        t.WV = false ∧ (∀ j : WIdx, t.W[j] = 0) ∧
        ∀ j : Fin 4, leVal (t.DMEM.readBytes (s.xVal d + 4 * j.val) 4) = (r[5 * j.val]).toNat ∧
          leVal (t.DMEM.readBytes (s.xVal d + 16 + 4 * j.val) 4) = (r[6 + j.val]).toNat)

/-- The step commands and the composites give the same bytes; only the composites leave W invalid (45_salsa20.md R245). -/
def Obligations.SalsaStepsEqualComposites : Prop :=
  ∀ (s : State) (a b c d j : XReg), s.xVal a + 16 ≤ s.params.dmemBytes → s.xVal b + 32 ≤ s.params.dmemBytes →
    s.xVal c + 16 ≤ s.params.dmemBytes → s.xVal d + 64 ≤ s.params.dmemBytes → s.xVal j + 64 ≤ s.params.dmemBytes →
    ∃ t u v h,
      execAll ([.saLdw a b c, .saStw j] ++ List.replicate 10 .saDround ++ [.saAddw j, .saStw d]) s = .next t ∧
      exec (.saCore d a b c) s = .next u ∧
      execAll ([.saLdw a b c, .saStw j] ++ List.replicate 10 .saDround ++ [.saStw d]) s = .next v ∧
      exec (.saHcore d a b c) s = .next h ∧ t.WV = true ∧ u.WV = false ∧
      t.DMEM.readBytes (s.xVal d) 64 = u.DMEM.readBytes (s.xVal d) 64 ∧
      v.DMEM.readBytes (s.xVal d) 4 ++ v.DMEM.readBytes (s.xVal d + 20) 4 ++ v.DMEM.readBytes (s.xVal d + 40) 4 ++
        v.DMEM.readBytes (s.xVal d + 60) 4 ++ v.DMEM.readBytes (s.xVal d + 24) 16 = h.DMEM.readBytes (s.xVal d) 32

/-! ## Poly1305 commands -/

/-- PL.INIT clamps the key byte by byte, PL.BLOCK absorbs one chunk with its appended 1 byte, PL.FINAL stores the tag and
leaves the state (46_poly1305.md R256 to R259). -/
def Obligations.PolySteps : Prop :=
  ∀ (s : State) (a b d : XReg),
    (s.xVal a + 32 ≤ s.params.dmemBytes →
      ∃ t, exec (.plInit a) s = .next t ∧ Completes { poly := true } s t ∧ t.PV = true ∧ t.PH = 0 ∧
        t.PS.toNat = leVal (s.DMEM.readBytes (s.xVal a + 16) 16) ∧
        leBytes 16 t.PR.toNat =
          (List.range 16).map fun i =>
            s.DMEM.read (s.xVal a + i) &&&
              (if i = 3 ∨ i = 7 ∨ i = 11 ∨ i = 15 then 15 else if i = 4 ∨ i = 8 ∨ i = 12 then 252 else 255)) ∧
    (s.PV = true → 1 ≤ s.xVal b → s.xVal b ≤ 16 → s.xVal a + s.xVal b ≤ s.params.dmemBytes →
      ∃ t, exec (.plBlock a b) s = .next t ∧ Completes { poly := true } s t ∧ t.PR = s.PR ∧ t.PS = s.PS ∧
        t.PV = true ∧
        t.PH = (s.PH + (leVal (s.DMEM.readBytes (s.xVal a) (s.xVal b)) + 2 ^ (8 * s.xVal b))) * s.PR.toNat % p1305) ∧
    (s.PV = true → s.xVal d + 16 ≤ s.params.dmemBytes →
      ∃ t, exec (.plFinal d) s = .next t ∧ Completes { base := s.xVal d, count := 16 } s t ∧
        leVal (t.DMEM.readBytes (s.xVal d) 16) = (s.PH + s.PS.toNat) % 2 ^ 128)

/-- PL.AUTH stores the authenticator of the message, PL.VERIFY writes 1 exactly if the 16 bytes given are that
authenticator; both invalidate the Poly1305 state (46_poly1305.md R260, R261). -/
def Obligations.PolyOneShots : Prop :=
  ∀ (s : State) (a b c d e : XReg),
    ((s.xVal b = 0 ∨ s.xVal a + s.xVal b ≤ s.params.dmemBytes) → s.xVal c + 32 ≤ s.params.dmemBytes →
      s.xVal d + 16 ≤ s.params.dmemBytes →
      ∃ t, exec (.plAuth d a b c) s = .next t ∧
        Completes { poly := true, base := s.xVal d, count := 16 } s t ∧
        t.PV = false ∧ t.PH = 0 ∧ t.PR = 0 ∧ t.PS = 0 ∧
        t.DMEM.readBytes (s.xVal d) 16 =
          poly1305 (s.DMEM.readBytes (s.xVal a) (s.xVal b)) (s.DMEM.readBytes (s.xVal c) 32)) ∧
    (s.xVal a + 16 ≤ s.params.dmemBytes → (s.xVal c = 0 ∨ s.xVal b + s.xVal c ≤ s.params.dmemBytes) →
      s.xVal e + 32 ≤ s.params.dmemBytes →
      ∃ t, exec (.plVerify d a b c e) s = .next t ∧ Completes { x := [d], poly := true } s t ∧
        t.PV = false ∧ t.PH = 0 ∧ t.PR = 0 ∧ t.PS = 0 ∧
        t.X[d] =
          if s.DMEM.readBytes (s.xVal a) 16 =
              poly1305 (s.DMEM.readBytes (s.xVal b) (s.xVal c)) (s.DMEM.readBytes (s.xVal e) 32)
          then 1 else 0)

/-- PL.INIT, PL.BLOCK on each successive chunk and PL.FINAL write what PL.AUTH writes, and leave the state valid where PL.AUTH
leaves it invalid (46_poly1305.md R262). -/
def Obligations.PolyStepsEqualOneShot : Prop :=
  ∀ (s : State) (a b c d : XReg), s.Inv → a ≠ b → d ≠ a → d ≠ b →
    (s.xVal b = 0 ∨ s.xVal a + s.xVal b ≤ s.params.dmemBytes) → s.xVal c + 32 ≤ s.params.dmemBytes →
    s.xVal d + 16 ≤ s.params.dmemBytes →
    ∃ t1 t2 t u, exec (.plInit c) s = .next t1 ∧ absorbChunks a b (s.xVal b) (s.xVal a) (s.xVal b) t1 = .next t2 ∧
      exec (.plFinal d) t2 = .next t ∧ exec (.plAuth d a b c) s = .next u ∧ t.PV = true ∧ u.PV = false ∧
      t.DMEM.readBytes (s.xVal d) 16 = u.DMEM.readBytes (s.xVal d) 16

/-! ## Stream commands -/

/-- S20.STREAM and XS.STREAM write the leading keystream bytes, byte i from block i div 64 with its 64-bit counter
(47_stream.md R276 to R278, R281, R283). -/
def Obligations.KeystreamBytes : Prop :=
  ∀ (s : State) (d a b c : XReg) (k : List Byte), k = s.DMEM.readBytes (s.xVal c) 32 →
    s.xVal c + 32 ≤ s.params.dmemBytes → (s.xVal a = 0 ∨ s.xVal d + s.xVal a ≤ s.params.dmemBytes) →
    (s.xVal b + 8 ≤ s.params.dmemBytes →
      ∃ t, exec (.s20Stream d a b c) s = .next t ∧
        Completes { w := true, base := s.xVal d, count := s.xVal a } s t ∧ t.WV = false ∧ (∀ j : WIdx, t.W[j] = 0) ∧
        ∀ i < s.xVal a, t.DMEM.read (s.xVal d + i) =
          (salsaCore (s.DMEM.readBytes (s.xVal b) 8 ++ leBytes 8 (i / 64)) k sigma).getD (i % 64) 0) ∧
    (s.xVal b + 24 ≤ s.params.dmemBytes →
      ∃ t, exec (.xsStream d a b c) s = .next t ∧
        Completes { w := true, base := s.xVal d, count := s.xVal a } s t ∧ t.WV = false ∧ (∀ j : WIdx, t.W[j] = 0) ∧
        ∀ i < s.xVal a, t.DMEM.read (s.xVal d + i) =
          (salsaCore (s.DMEM.readBytes (s.xVal b + 16) 8 ++ leBytes 8 (i / 64))
            (hsalsaCore (s.DMEM.readBytes (s.xVal b) 16) k sigma) sigma).getD (i % 64) 0)

/-- S20.XOR and XS.XOR run the byte-sequential loop literally, on every overlap: `ks` is the keystream of the values read at
the start, the pad comes first, and each message byte is read immediately before its output byte is written (47_stream.md
R280, R282, R284). -/
def Obligations.StreamXorIsTheByteLoop : Prop :=
  ∀ (s : State) (d a b c e f : XReg) (m0 : Memory) (ks : List Byte), s.xVal f ≤ 63 →
    (s.xVal b = 0 ∨ s.xVal a + s.xVal b ≤ s.params.dmemBytes) → s.xVal e + 32 ≤ s.params.dmemBytes →
    (s.xVal f + s.xVal b = 0 ∨ s.xVal d + (s.xVal f + s.xVal b) ≤ s.params.dmemBytes) →
    m0 = (List.range (s.xVal f)).foldl (fun m i => m.write (s.xVal d + i) (ks.getD i 0)) s.DMEM →
    (s.xVal c + 8 ≤ s.params.dmemBytes →
      ks = keystream (s.DMEM.readBytes (s.xVal c) 8) (s.DMEM.readBytes (s.xVal e) 32) (s.xVal f + s.xVal b) →
      ∃ t, exec (.s20Xor d a b c e f) s = .next t ∧
        Completes { w := true, base := s.xVal d, count := s.xVal f + s.xVal b } s t ∧ t.WV = false ∧
        (∀ j : WIdx, t.W[j] = 0) ∧
        t.DMEM = (List.range (s.xVal b)).foldl (fun m i => m.write (s.xVal d + s.xVal f + i)
          (m.read (s.xVal a + i) ^^^ ks.getD (s.xVal f + i) 0)) m0) ∧
    (s.xVal c + 24 ≤ s.params.dmemBytes →
      ks = xkeystream (s.DMEM.readBytes (s.xVal c) 24) (s.DMEM.readBytes (s.xVal e) 32) (s.xVal f + s.xVal b) →
      ∃ t, exec (.xsXor d a b c e f) s = .next t ∧
        Completes { w := true, base := s.xVal d, count := s.xVal f + s.xVal b } s t ∧ t.WV = false ∧
        (∀ j : WIdx, t.W[j] = 0) ∧
        t.DMEM = (List.range (s.xVal b)).foldl (fun m i => m.write (s.xVal d + s.xVal f + i)
          (m.read (s.xVal a + i) ^^^ ks.getD (s.xVal f + i) 0)) m0)

/-- Where the output starts so low that it ends its pad at or below the message, or lies wholly above it, S20.XOR and XS.XOR give
the XOR of the keystream with `pad` zero bytes and the message as it stood before (47_stream.md R280, R282, R284). -/
def Obligations.StreamXorOfACopiedMessage : Prop :=
  ∀ (s t : State) (d a b c e f : XReg) (ks : List Byte),
    (s.xVal d + s.xVal f ≤ s.xVal a ∨ s.xVal a + s.xVal b ≤ s.xVal d) →
    (exec (.s20Xor d a b c e f) s = .next t ∧
        ks = keystream (s.DMEM.readBytes (s.xVal c) 8) (s.DMEM.readBytes (s.xVal e) 32) (s.xVal f + s.xVal b) ∨
      exec (.xsXor d a b c e f) s = .next t ∧
        ks = xkeystream (s.DMEM.readBytes (s.xVal c) 24) (s.DMEM.readBytes (s.xVal e) 32) (s.xVal f + s.xVal b)) →
    s.STATUS.err = false → t.STATUS.err = false →
    (∀ i < s.xVal f, t.DMEM.read (s.xVal d + i) = ks.getD i 0) ∧
      ∀ i < s.xVal b, t.DMEM.read (s.xVal d + s.xVal f + i) =
        s.DMEM.read (s.xVal a + i) ^^^ ks.getD (s.xVal f + i) 0
end

