-- ==== Sys2Proof/Laws/Bytes.lean ====
section
/-! SUPPORT. Byte strings and their little-endian values (00_scope.md R11). -/

namespace Sys2Proof.Machine

-- One theorem at a time: many at once ask for more threads than a memory limit may allow.
set_option Elab.async false

@[simp] theorem leVal_nil : leVal [] = 0 := rfl

@[simp] theorem leVal_cons (b : Byte) (bs : List Byte) : leVal (b :: bs) = b.toNat + 256 * leVal bs := rfl

@[simp] theorem leBytes_length (n v : Nat) : (leBytes n v).length = n := by
  induction n generalizing v with
  | zero => rfl
  | succ n ih => simp [leBytes, ih]

theorem leVal_lt (bs : List Byte) : leVal bs < 256 ^ bs.length := by
  induction bs with
  | nil => simp
  | cons b bs ih =>
    have := b.isLt
    simp only [leVal_cons, List.length_cons, pow_succ]
    omega

/-- Writing a value as `n` bytes and reading it back gives it modulo `2^(8n)`. -/
theorem leVal_leBytes (n v : Nat) : leVal (leBytes n v) = v % 256 ^ n := by
  induction n generalizing v with
  | zero => simp [leBytes, Nat.mod_one]
  | succ n ih =>
    rw [leBytes, leVal_cons, ih, BitVec.toNat_ofNat, pow_succ' 256 n, Nat.mod_mul]

/-- A value that fits is read back whole. -/
theorem leVal_leBytes_of_lt {n v : Nat} (h : v < 256 ^ n) : leVal (leBytes n v) = v := by
  rw [leVal_leBytes, Nat.mod_eq_of_lt h]

/-- A byte string is determined by its length and its value. -/
theorem leBytes_leVal (bs : List Byte) : leBytes bs.length (leVal bs) = bs := by
  induction bs with
  | nil => rfl
  | cons b bs ih =>
    have hb := b.isLt
    have h1 : BitVec.ofNat 8 (b.toNat + 256 * leVal bs) = b := by
      apply BitVec.eq_of_toNat_eq
      rw [BitVec.toNat_ofNat]
      omega
    have h2 : (b.toNat + 256 * leVal bs) / 256 = leVal bs := by omega
    simp only [List.length_cons, leVal_cons, leBytes, h1, h2, ih]

theorem leVal_append (as bs : List Byte) : leVal (as ++ bs) = leVal as + 256 ^ as.length * leVal bs := by
  induction as with
  | nil => simp
  | cons a as ih =>
    simp only [List.cons_append, leVal_cons, ih, List.length_cons, pow_succ]
    ring

/-- Byte `i` of the `n` bytes of a value. -/
theorem leBytes_getElem (n v i : Nat) (h : i < (leBytes n v).length) :
    (leBytes n v)[i] = BitVec.ofNat 8 (v / 256 ^ i) := by
  induction n generalizing v i with
  | zero => simp [leBytes] at h
  | succ n ih =>
    cases i with
    | zero => simp [leBytes]
    | succ i =>
      simp only [leBytes, List.getElem_cons_succ]
      rw [ih, Nat.div_div_eq_div_mul, pow_succ, Nat.mul_comm]

@[simp] theorem wordBytes_length (w : Word) : (wordBytes w).length = 4 := by simp [wordBytes]

theorem leVal_wordBytes (w : Word) : leVal (wordBytes w) = w.toNat := by
  rw [wordBytes, leVal_leBytes_of_lt]
  exact w.isLt

/-- The rotation of 00_scope.md R12 is the rotation of bit vectors. -/
theorem rotl_eq_rotateLeft (v : Word) (c : Nat) (h : c < 32) : rotl v c = v.rotateLeft c := by
  have hmod : c % 32 = c := Nat.mod_eq_of_lt h
  rw [rotl, BitVec.rotateLeft_def, hmod, BitVec.add_eq_or_of_and_eq_zero]
  ext i hi
  simp only [BitVec.getElem_and, BitVec.getElem_shiftLeft, BitVec.getElem_ushiftRight, BitVec.getElem_zero]
  by_cases hc : i < c
  · simp [hc]
  · have : 32 ≤ 32 - c + i := by omega
    simp [BitVec.getLsbD_of_ge _ _ this]

end Sys2Proof.Machine
end

