-- ==== Sys2Proof/Laws/Memory.lean ====
section
/-! SUPPORT. The data memory: what a read finds after a write (20_memory.md R79), and that every operation keeps the
canonical form. -/

namespace Sys2Proof.Machine

-- One theorem at a time: many at once ask for more threads than a memory limit may allow.
set_option Elab.async false

/-! ## Reads after writes -/

theorem lookupCell_insertCell (cs : List Host.Cell) (a : Nat) (b : Byte) (x : Nat) :
    lookupCell (insertCell cs a b) x = if x = a then some b else lookupCell cs x := by
  induction cs with
  | nil => simp [insertCell, lookupCell]
  | cons c cs ih =>
    obtain ⟨a', b'⟩ := c
    simp only [insertCell]
    split
    · simp [lookupCell]
    · split
      · subst_vars
        simp only [lookupCell]
        split <;> simp_all
      · simp only [lookupCell, ih]
        split
        · subst_vars
          simp_all [eq_comm]
        · rfl

theorem lookupCell_eraseCell (cs : List Host.Cell) (a x : Nat) :
    lookupCell (eraseCell cs a) x = if x = a then none else lookupCell cs x := by
  induction cs with
  | nil => simp [eraseCell, lookupCell]
  | cons c cs ih =>
    obtain ⟨a', b'⟩ := c
    simp only [eraseCell]
    split
    · subst_vars
      simp only [ih, lookupCell]
      split <;> simp_all
    · simp only [lookupCell, ih]
      split
      · subst_vars
        simp_all [eq_comm]
      · rfl

@[simp] theorem Memory.write_background (m : Memory) (a : Nat) (b : Byte) :
    (m.write a b).background = m.background := rfl

/-- A byte reads as the last value written to it, and every other byte as before. -/
theorem Memory.read_write (m : Memory) (a : Nat) (b : Byte) (x : Nat) :
    (m.write a b).read x = if x = a then b else m.read x := by
  simp only [Memory.read, Memory.write]
  by_cases h : m.background = .zeros ∧ b = 0
  · rw [if_pos h, lookupCell_eraseCell]
    split
    · simp [h.1, h.2, Background.read]
    · rfl
  · rw [if_neg h, lookupCell_insertCell]
    split <;> rfl

@[simp] theorem Memory.read_write_same (m : Memory) (a : Nat) (b : Byte) : (m.write a b).read a = b := by
  simp [Memory.read_write]

theorem Memory.read_write_other (m : Memory) {a x : Nat} (b : Byte) (h : x ≠ a) : (m.write a b).read x = m.read x := by
  simp [Memory.read_write, h]

@[simp] theorem Memory.readBytes_length (m : Memory) (a n : Nat) : (m.readBytes a n).length = n := by
  induction n generalizing a with
  | zero => rfl
  | succ n ih => simp [Memory.readBytes, ih]

/-- Byte `i` of a string read from address `a` is the byte at `a + i`. -/
@[simp] theorem Memory.readBytes_getElem (m : Memory) (a n i : Nat) (h : i < (m.readBytes a n).length) :
    (m.readBytes a n)[i] = m.read (a + i) := by
  induction n generalizing a i with
  | zero => simp at h
  | succ n ih =>
    cases i with
    | zero => simp [Memory.readBytes]
    | succ i =>
      simp only [Memory.readBytes, List.getElem_cons_succ]
      rw [ih]
      congr 1
      omega

/-- Two memories that agree on a string's bytes give the same string. -/
theorem Memory.readBytes_congr {m m' : Memory} {a n : Nat} (h : ∀ i < n, m.read (a + i) = m'.read (a + i)) :
    m.readBytes a n = m'.readBytes a n := by
  apply List.ext_getElem
  · simp
  · intro i h1 h2
    simp only [Memory.readBytes_length] at h1
    simp [h i h1]

/-- Outside the bytes of the string written, every byte is as before. -/
theorem Memory.read_writeBytes_other (m : Memory) (a : Nat) (bs : List Byte) (x : Nat)
    (h : ¬(a ≤ x ∧ x < a + bs.length)) : (m.writeBytes a bs).read x = m.read x := by
  induction bs generalizing m a with
  | nil => rfl
  | cons b bs ih =>
    simp only [List.length_cons] at h
    rw [Memory.writeBytes, ih _ _ (by omega), Memory.read_write_other _ _ (by omega)]

/-- Inside it, the bytes of the string stand in order. -/
theorem Memory.read_writeBytes (m : Memory) (a : Nat) (bs : List Byte) (i : Nat) (h : i < bs.length) :
    (m.writeBytes a bs).read (a + i) = bs[i] := by
  induction bs generalizing m a i with
  | nil => simp at h
  | cons b bs ih =>
    cases i with
    | zero =>
      rw [Memory.writeBytes, Memory.read_writeBytes_other _ _ _ _ (by omega)]
      simp
    | succ i =>
      rw [Memory.writeBytes, show a + (i + 1) = a + 1 + i by omega, ih]
      · rfl

/-- A string written is read back. -/
theorem Memory.readBytes_writeBytes (m : Memory) (a : Nat) (bs : List Byte) :
    (m.writeBytes a bs).readBytes a bs.length = bs := by
  apply List.ext_getElem
  · simp
  · intro i h1 h2
    rw [Memory.readBytes_getElem, Memory.read_writeBytes _ _ _ _ h2]

/-- A string that overlaps no byte written is read as before. -/
theorem Memory.readBytes_writeBytes_other (m : Memory) (a : Nat) (bs : List Byte) (x n : Nat)
    (h : x + n ≤ a ∨ a + bs.length ≤ x) : (m.writeBytes a bs).readBytes x n = m.readBytes x n := by
  apply Memory.readBytes_congr
  intro i hi
  exact Memory.read_writeBytes_other _ _ _ _ (by omega)

@[simp] theorem Memory.read_wiped (x : Nat) : Memory.wiped.read x = 0 := rfl

/-- The stream loop writes only the bytes from `c` upward, as many as the keystream has. -/
theorem read_xorLoop_other (m : Memory) (c a : Nat) (ks : List Byte) (x : Nat) (h : ¬(c ≤ x ∧ x < c + ks.length)) :
    (xorLoop m c a ks).read x = m.read x := by
  induction ks generalizing m c a with
  | nil => rfl
  | cons k ks ih =>
    simp only [List.length_cons] at h
    rw [xorLoop, ih _ _ _ (by omega), Memory.read_write_other _ _ (by omega)]

/-- Where the output does not lie above its message and overlap it, each output byte is the XOR of the message byte that
stood there before the loop (47_stream.md R280). -/
theorem read_xorLoop (m : Memory) (c a : Nat) (ks : List Byte) (i : Nat) (h : i < ks.length)
    (hov : c ≤ a ∨ a + ks.length ≤ c) : (xorLoop m c a ks).read (c + i) = m.read (a + i) ^^^ ks[i] := by
  induction ks generalizing m c a i with
  | nil => simp at h
  | cons k ks ih =>
    simp only [List.length_cons] at h hov
    cases i with
    | zero =>
      rw [xorLoop, read_xorLoop_other _ _ _ _ _ (by omega)]
      simp
    | succ i =>
      rw [xorLoop, show c + (i + 1) = c + 1 + i by omega, ih _ _ _ _ (by omega) (by omega),
        show a + (i + 1) = a + 1 + i by omega, Memory.read_write_other _ _ (by omega)]
      rfl

/-! ## The canonical form -/

theorem risingCells_cons {a : Nat} {b : Byte} {cs : List Host.Cell} :
    risingCells ((a, b) :: cs) = true ↔ (∀ c ∈ cs, a < c.1) ∧ risingCells cs = true := by
  induction cs generalizing a b with
  | nil => simp [risingCells]
  | cons c cs ih =>
    obtain ⟨a', b'⟩ := c
    simp only [risingCells, Bool.and_eq_true, decide_eq_true_eq, List.mem_cons, forall_eq_or_imp]
    constructor
    · rintro ⟨h1, h2⟩
      refine ⟨⟨h1, fun c hc => ?_⟩, h2⟩
      exact lt_trans h1 ((ih.mp h2).1 c hc)
    · rintro ⟨⟨h1, _⟩, h2⟩
      exact ⟨h1, h2⟩

theorem mem_insertCell {cs : List Host.Cell} {a : Nat} {b : Byte} {c : Host.Cell} (h : c ∈ insertCell cs a b) :
    c = (a, b) ∨ c ∈ cs := by
  induction cs with
  | nil => simpa [insertCell] using h
  | cons d cs ih =>
    obtain ⟨a', b'⟩ := d
    simp only [insertCell] at h
    split at h
    · simpa using h
    · split at h
      · rcases List.mem_cons.mp h with h | h
        · exact .inl h
        · exact .inr (List.mem_cons_of_mem _ h)
      · rcases List.mem_cons.mp h with h | h
        · exact .inr (by simp [h])
        · rcases ih h with h | h
          · exact .inl h
          · exact .inr (List.mem_cons_of_mem _ h)

theorem mem_eraseCell {cs : List Host.Cell} {a : Nat} {c : Host.Cell} (h : c ∈ eraseCell cs a) : c ∈ cs := by
  induction cs with
  | nil => simp [eraseCell] at h
  | cons d cs ih =>
    obtain ⟨a', b'⟩ := d
    simp only [eraseCell] at h
    split at h
    · exact List.mem_cons_of_mem _ (ih h)
    · rcases List.mem_cons.mp h with h | h
      · simp [h]
      · exact List.mem_cons_of_mem _ (ih h)

theorem risingCells_insertCell {cs : List Host.Cell} (h : risingCells cs = true) (a : Nat) (b : Byte) :
    risingCells (insertCell cs a b) = true := by
  induction cs with
  | nil => rfl
  | cons d cs ih =>
    obtain ⟨a', b'⟩ := d
    obtain ⟨h1, h2⟩ := risingCells_cons.mp h
    simp only [insertCell]
    split
    · exact risingCells_cons.mpr ⟨fun c hc => by
        rcases List.mem_cons.mp hc with rfl | hc
        · assumption
        · exact lt_trans ‹_› (h1 c hc), h⟩
    · split
      · subst_vars
        exact risingCells_cons.mpr ⟨h1, h2⟩
      · refine risingCells_cons.mpr ⟨fun c hc => ?_, ih h2⟩
        rcases mem_insertCell hc with rfl | hc
        · simp only
          omega
        · exact h1 c hc

theorem risingCells_eraseCell {cs : List Host.Cell} (h : risingCells cs = true) (a : Nat) :
    risingCells (eraseCell cs a) = true := by
  induction cs with
  | nil => rfl
  | cons d cs ih =>
    obtain ⟨a', b'⟩ := d
    obtain ⟨h1, h2⟩ := risingCells_cons.mp h
    simp only [eraseCell]
    split
    · exact ih h2
    · exact risingCells_cons.mpr ⟨fun c hc => h1 c (mem_eraseCell hc), ih h2⟩

/-- The canonical form, opened up. -/
theorem Memory.wf_iff {m : Memory} :
    m.wf = true ↔ risingCells m.cells = true ∧ (m.background = .zeros → ∀ c ∈ m.cells, c.2 ≠ 0) := by
  simp only [Memory.wf, Bool.and_eq_true, Bool.or_eq_true, decide_eq_true_eq, List.all_eq_true]
  constructor
  · rintro ⟨h1, h2⟩
    exact ⟨h1, fun hz => h2.resolve_left (fun h => h hz)⟩
  · rintro ⟨h1, h2⟩
    refine ⟨h1, ?_⟩
    by_cases hz : m.background = .zeros
    · exact .inr (h2 hz)
    · exact .inl hz

theorem Memory.wf_write {m : Memory} (h : m.wf = true) (a : Nat) (b : Byte) : (m.write a b).wf = true := by
  obtain ⟨h1, h2⟩ := Memory.wf_iff.mp h
  refine Memory.wf_iff.mpr ⟨?_, fun hz c hc => ?_⟩
  · simp only [Memory.write]
    split
    · exact risingCells_eraseCell h1 a
    · exact risingCells_insertCell h1 a b
  · simp only [Memory.write_background] at hz
    simp only [Memory.write] at hc
    split at hc
    · exact h2 hz c (mem_eraseCell hc)
    · rename_i hb
      rcases mem_insertCell hc with rfl | hc
      · exact fun h0 => hb ⟨hz, h0⟩
      · exact h2 hz c hc

theorem Memory.wf_writeBytes {m : Memory} (h : m.wf = true) (a : Nat) (bs : List Byte) :
    (m.writeBytes a bs).wf = true := by
  induction bs generalizing m a with
  | nil => exact h
  | cons b bs ih => exact ih (Memory.wf_write h a b) (a + 1)

theorem wf_xorLoop {m : Memory} (h : m.wf = true) (c a : Nat) (ks : List Byte) : (xorLoop m c a ks).wf = true := by
  induction ks generalizing m c a with
  | nil => exact h
  | cons k ks ih => exact ih (Memory.wf_write h _ _) (c + 1) (a + 1)

theorem wf_streamLoop {m : Memory} (h : m.wf = true) (c a pad : Nat) (ks : List Byte) :
    (streamLoop m c a pad ks).wf = true :=
  wf_xorLoop (Memory.wf_writeBytes h _ _) _ _ _

theorem Memory.wf_wiped : Memory.wiped.wf = true := rfl

/-- The memory right after a reset has the form. -/
theorem Memory.wf_afterReset (c : Params) (k : Nat) (later : List Input) :
    (State.afterReset c k later).DMEM.wf = true := rfl

theorem Memory.wf_reset : State.reset.DMEM.wf = true := rfl

/-! ## The listed addresses -/

/-- Every listed address lies below `n`. -/
def Memory.below (m : Memory) (n : Nat) : Prop := ∀ c ∈ m.cells, c.1 < n

theorem Memory.below_write {m : Memory} {n : Nat} (h : m.below n) {a : Nat} (ha : a < n) (b : Byte) :
    (m.write a b).below n := by
  intro c hc
  simp only [Memory.write] at hc
  split at hc
  · exact h c (mem_eraseCell hc)
  · rcases mem_insertCell hc with rfl | hc
    · exact ha
    · exact h c hc

theorem Memory.below_writeBytes {m : Memory} {n : Nat} (h : m.below n) {a : Nat} {bs : List Byte}
    (ha : bs = [] ∨ a + bs.length ≤ n) : (m.writeBytes a bs).below n := by
  induction bs generalizing m a with
  | nil => exact h
  | cons b bs ih =>
    simp only [List.length_cons, reduceCtorEq, false_or] at ha
    exact ih (Memory.below_write h (by omega) b) (.inr (by omega))

theorem below_xorLoop {m : Memory} {n : Nat} (h : m.below n) {c a : Nat} {ks : List Byte}
    (hc : ks = [] ∨ c + ks.length ≤ n) : (xorLoop m c a ks).below n := by
  induction ks generalizing m c a with
  | nil => exact h
  | cons k ks ih =>
    simp only [List.length_cons, reduceCtorEq, false_or] at hc
    exact ih (Memory.below_write h (by omega) _) (.inr (by omega))

end Sys2Proof.Machine
end

