-- ==== Sys2Proof/Laws/State.lean ====
section
/-! SUPPORT. What each update of the state leaves in each field: one lemma per field per update, each true by definition, so
that no later proof unfolds a record update. -/

namespace Sys2Proof.Machine

-- One theorem at a time: many at once ask for more threads than a memory limit may allow.
set_option Elab.async false

/-! ## Register files, indexed by a register -/

/-- The register written holds the new value. -/
theorem file_set_self {α : Type} (v : Vector α 16) (i : Fin 16) (x : α) : (v.set i x)[i] = x := by simp

/-- Another register keeps its value. -/
theorem file_set_other {α : Type} (v : Vector α 16) {i j : Fin 16} (x : α) (h : j ≠ i) : (v.set i x)[j] = v[j] := by
  have : i.val ≠ j.val := fun h' => h (Fin.ext h'.symm)
  simp [this]

/-- Every register of a cleared file. -/
theorem file_replicate {α : Type} (x : α) (i : Fin 16) : (Vector.replicate 16 x)[i] = x := by simp

variable (s : State)


@[simp] theorem State.writeX_params (i : XReg) (v : Word) : (s.writeX i v).params = s.params := rfl
@[simp] theorem State.writeX_X (i : XReg) (v : Word) : (s.writeX i v).X = s.X.set i v := rfl
@[simp] theorem State.writeX_F (i : XReg) (v : Word) : (s.writeX i v).F = s.F := rfl
@[simp] theorem State.writeX_S (i : XReg) (v : Word) : (s.writeX i v).S = s.S := rfl
@[simp] theorem State.writeX_P (i : XReg) (v : Word) : (s.writeX i v).P = s.P := rfl
@[simp] theorem State.writeX_W (i : XReg) (v : Word) : (s.writeX i v).W = s.W := rfl
@[simp] theorem State.writeX_WV (i : XReg) (v : Word) : (s.writeX i v).WV = s.WV := rfl
@[simp] theorem State.writeX_PH (i : XReg) (v : Word) : (s.writeX i v).PH = s.PH := rfl
@[simp] theorem State.writeX_PR (i : XReg) (v : Word) : (s.writeX i v).PR = s.PR := rfl
@[simp] theorem State.writeX_PS (i : XReg) (v : Word) : (s.writeX i v).PS = s.PS := rfl
@[simp] theorem State.writeX_PV (i : XReg) (v : Word) : (s.writeX i v).PV = s.PV := rfl
@[simp] theorem State.writeX_CTRL (i : XReg) (v : Word) : (s.writeX i v).CTRL = s.CTRL := rfl
@[simp] theorem State.writeX_STATUS (i : XReg) (v : Word) : (s.writeX i v).STATUS = s.STATUS := rfl
@[simp] theorem State.writeX_CAUSE (i : XReg) (v : Word) : (s.writeX i v).CAUSE = s.CAUSE := rfl
@[simp] theorem State.writeX_ERRCMD (i : XReg) (v : Word) : (s.writeX i v).ERRCMD = s.ERRCMD := rfl
@[simp] theorem State.writeX_CUR (i : XReg) (v : Word) : (s.writeX i v).CUR = s.CUR := rfl
@[simp] theorem State.writeX_DMEM (i : XReg) (v : Word) : (s.writeX i v).DMEM = s.DMEM := rfl
@[simp] theorem State.writeX_inputs (i : XReg) (v : Word) : (s.writeX i v).inputs = s.inputs := rfl
@[simp] theorem State.writeX_answer (i : XReg) (v : Word) : (s.writeX i v).answer = s.answer := rfl
@[simp] theorem State.writeX_draws (i : XReg) (v : Word) : (s.writeX i v).draws = s.draws := rfl

@[simp] theorem State.writeF_params (i : FReg) (v : Nat) : (s.writeF i v).params = s.params := rfl
@[simp] theorem State.writeF_X (i : FReg) (v : Nat) : (s.writeF i v).X = s.X := rfl
@[simp] theorem State.writeF_F (i : FReg) (v : Nat) : (s.writeF i v).F = s.F.set i ⟨true, v⟩ := rfl
@[simp] theorem State.writeF_S (i : FReg) (v : Nat) : (s.writeF i v).S = s.S := rfl
@[simp] theorem State.writeF_P (i : FReg) (v : Nat) : (s.writeF i v).P = s.P := rfl
@[simp] theorem State.writeF_W (i : FReg) (v : Nat) : (s.writeF i v).W = s.W := rfl
@[simp] theorem State.writeF_WV (i : FReg) (v : Nat) : (s.writeF i v).WV = s.WV := rfl
@[simp] theorem State.writeF_PH (i : FReg) (v : Nat) : (s.writeF i v).PH = s.PH := rfl
@[simp] theorem State.writeF_PR (i : FReg) (v : Nat) : (s.writeF i v).PR = s.PR := rfl
@[simp] theorem State.writeF_PS (i : FReg) (v : Nat) : (s.writeF i v).PS = s.PS := rfl
@[simp] theorem State.writeF_PV (i : FReg) (v : Nat) : (s.writeF i v).PV = s.PV := rfl
@[simp] theorem State.writeF_CTRL (i : FReg) (v : Nat) : (s.writeF i v).CTRL = s.CTRL := rfl
@[simp] theorem State.writeF_STATUS (i : FReg) (v : Nat) : (s.writeF i v).STATUS = s.STATUS := rfl
@[simp] theorem State.writeF_CAUSE (i : FReg) (v : Nat) : (s.writeF i v).CAUSE = s.CAUSE := rfl
@[simp] theorem State.writeF_ERRCMD (i : FReg) (v : Nat) : (s.writeF i v).ERRCMD = s.ERRCMD := rfl
@[simp] theorem State.writeF_CUR (i : FReg) (v : Nat) : (s.writeF i v).CUR = s.CUR := rfl
@[simp] theorem State.writeF_DMEM (i : FReg) (v : Nat) : (s.writeF i v).DMEM = s.DMEM := rfl
@[simp] theorem State.writeF_inputs (i : FReg) (v : Nat) : (s.writeF i v).inputs = s.inputs := rfl
@[simp] theorem State.writeF_answer (i : FReg) (v : Nat) : (s.writeF i v).answer = s.answer := rfl
@[simp] theorem State.writeF_draws (i : FReg) (v : Nat) : (s.writeF i v).draws = s.draws := rfl

@[simp] theorem State.writeS_params (i : SReg) (v : Nat) : (s.writeS i v).params = s.params := rfl
@[simp] theorem State.writeS_X (i : SReg) (v : Nat) : (s.writeS i v).X = s.X := rfl
@[simp] theorem State.writeS_F (i : SReg) (v : Nat) : (s.writeS i v).F = s.F := rfl
@[simp] theorem State.writeS_S (i : SReg) (v : Nat) : (s.writeS i v).S = s.S.set i ⟨true, v⟩ := rfl
@[simp] theorem State.writeS_P (i : SReg) (v : Nat) : (s.writeS i v).P = s.P := rfl
@[simp] theorem State.writeS_W (i : SReg) (v : Nat) : (s.writeS i v).W = s.W := rfl
@[simp] theorem State.writeS_WV (i : SReg) (v : Nat) : (s.writeS i v).WV = s.WV := rfl
@[simp] theorem State.writeS_PH (i : SReg) (v : Nat) : (s.writeS i v).PH = s.PH := rfl
@[simp] theorem State.writeS_PR (i : SReg) (v : Nat) : (s.writeS i v).PR = s.PR := rfl
@[simp] theorem State.writeS_PS (i : SReg) (v : Nat) : (s.writeS i v).PS = s.PS := rfl
@[simp] theorem State.writeS_PV (i : SReg) (v : Nat) : (s.writeS i v).PV = s.PV := rfl
@[simp] theorem State.writeS_CTRL (i : SReg) (v : Nat) : (s.writeS i v).CTRL = s.CTRL := rfl
@[simp] theorem State.writeS_STATUS (i : SReg) (v : Nat) : (s.writeS i v).STATUS = s.STATUS := rfl
@[simp] theorem State.writeS_CAUSE (i : SReg) (v : Nat) : (s.writeS i v).CAUSE = s.CAUSE := rfl
@[simp] theorem State.writeS_ERRCMD (i : SReg) (v : Nat) : (s.writeS i v).ERRCMD = s.ERRCMD := rfl
@[simp] theorem State.writeS_CUR (i : SReg) (v : Nat) : (s.writeS i v).CUR = s.CUR := rfl
@[simp] theorem State.writeS_DMEM (i : SReg) (v : Nat) : (s.writeS i v).DMEM = s.DMEM := rfl
@[simp] theorem State.writeS_inputs (i : SReg) (v : Nat) : (s.writeS i v).inputs = s.inputs := rfl
@[simp] theorem State.writeS_answer (i : SReg) (v : Nat) : (s.writeS i v).answer = s.answer := rfl
@[simp] theorem State.writeS_draws (i : SReg) (v : Nat) : (s.writeS i v).draws = s.draws := rfl

@[simp] theorem State.writeP_params (i : PReg) (v : Point) : (s.writeP i v).params = s.params := rfl
@[simp] theorem State.writeP_X (i : PReg) (v : Point) : (s.writeP i v).X = s.X := rfl
@[simp] theorem State.writeP_F (i : PReg) (v : Point) : (s.writeP i v).F = s.F := rfl
@[simp] theorem State.writeP_S (i : PReg) (v : Point) : (s.writeP i v).S = s.S := rfl
@[simp] theorem State.writeP_P (i : PReg) (v : Point) : (s.writeP i v).P = s.P.set i ⟨true, v⟩ := rfl
@[simp] theorem State.writeP_W (i : PReg) (v : Point) : (s.writeP i v).W = s.W := rfl
@[simp] theorem State.writeP_WV (i : PReg) (v : Point) : (s.writeP i v).WV = s.WV := rfl
@[simp] theorem State.writeP_PH (i : PReg) (v : Point) : (s.writeP i v).PH = s.PH := rfl
@[simp] theorem State.writeP_PR (i : PReg) (v : Point) : (s.writeP i v).PR = s.PR := rfl
@[simp] theorem State.writeP_PS (i : PReg) (v : Point) : (s.writeP i v).PS = s.PS := rfl
@[simp] theorem State.writeP_PV (i : PReg) (v : Point) : (s.writeP i v).PV = s.PV := rfl
@[simp] theorem State.writeP_CTRL (i : PReg) (v : Point) : (s.writeP i v).CTRL = s.CTRL := rfl
@[simp] theorem State.writeP_STATUS (i : PReg) (v : Point) : (s.writeP i v).STATUS = s.STATUS := rfl
@[simp] theorem State.writeP_CAUSE (i : PReg) (v : Point) : (s.writeP i v).CAUSE = s.CAUSE := rfl
@[simp] theorem State.writeP_ERRCMD (i : PReg) (v : Point) : (s.writeP i v).ERRCMD = s.ERRCMD := rfl
@[simp] theorem State.writeP_CUR (i : PReg) (v : Point) : (s.writeP i v).CUR = s.CUR := rfl
@[simp] theorem State.writeP_DMEM (i : PReg) (v : Point) : (s.writeP i v).DMEM = s.DMEM := rfl
@[simp] theorem State.writeP_inputs (i : PReg) (v : Point) : (s.writeP i v).inputs = s.inputs := rfl
@[simp] theorem State.writeP_answer (i : PReg) (v : Point) : (s.writeP i v).answer = s.answer := rfl
@[simp] theorem State.writeP_draws (i : PReg) (v : Point) : (s.writeP i v).draws = s.draws := rfl

@[simp] theorem State.invalidateP_params (i : PReg) : (s.invalidateP i).params = s.params := rfl
@[simp] theorem State.invalidateP_X (i : PReg) : (s.invalidateP i).X = s.X := rfl
@[simp] theorem State.invalidateP_F (i : PReg) : (s.invalidateP i).F = s.F := rfl
@[simp] theorem State.invalidateP_S (i : PReg) : (s.invalidateP i).S = s.S := rfl
@[simp] theorem State.invalidateP_P (i : PReg) : (s.invalidateP i).P = s.P.set i (Slot.invalid Point.zero) := rfl
@[simp] theorem State.invalidateP_W (i : PReg) : (s.invalidateP i).W = s.W := rfl
@[simp] theorem State.invalidateP_WV (i : PReg) : (s.invalidateP i).WV = s.WV := rfl
@[simp] theorem State.invalidateP_PH (i : PReg) : (s.invalidateP i).PH = s.PH := rfl
@[simp] theorem State.invalidateP_PR (i : PReg) : (s.invalidateP i).PR = s.PR := rfl
@[simp] theorem State.invalidateP_PS (i : PReg) : (s.invalidateP i).PS = s.PS := rfl
@[simp] theorem State.invalidateP_PV (i : PReg) : (s.invalidateP i).PV = s.PV := rfl
@[simp] theorem State.invalidateP_CTRL (i : PReg) : (s.invalidateP i).CTRL = s.CTRL := rfl
@[simp] theorem State.invalidateP_STATUS (i : PReg) : (s.invalidateP i).STATUS = s.STATUS := rfl
@[simp] theorem State.invalidateP_CAUSE (i : PReg) : (s.invalidateP i).CAUSE = s.CAUSE := rfl
@[simp] theorem State.invalidateP_ERRCMD (i : PReg) : (s.invalidateP i).ERRCMD = s.ERRCMD := rfl
@[simp] theorem State.invalidateP_CUR (i : PReg) : (s.invalidateP i).CUR = s.CUR := rfl
@[simp] theorem State.invalidateP_DMEM (i : PReg) : (s.invalidateP i).DMEM = s.DMEM := rfl
@[simp] theorem State.invalidateP_inputs (i : PReg) : (s.invalidateP i).inputs = s.inputs := rfl
@[simp] theorem State.invalidateP_answer (i : PReg) : (s.invalidateP i).answer = s.answer := rfl
@[simp] theorem State.invalidateP_draws (i : PReg) : (s.invalidateP i).draws = s.draws := rfl

@[simp] theorem State.writeW_params (v : Vector Word 16) : (s.writeW v).params = s.params := rfl
@[simp] theorem State.writeW_X (v : Vector Word 16) : (s.writeW v).X = s.X := rfl
@[simp] theorem State.writeW_F (v : Vector Word 16) : (s.writeW v).F = s.F := rfl
@[simp] theorem State.writeW_S (v : Vector Word 16) : (s.writeW v).S = s.S := rfl
@[simp] theorem State.writeW_P (v : Vector Word 16) : (s.writeW v).P = s.P := rfl
@[simp] theorem State.writeW_W (v : Vector Word 16) : (s.writeW v).W = v := rfl
@[simp] theorem State.writeW_WV (v : Vector Word 16) : (s.writeW v).WV = true := rfl
@[simp] theorem State.writeW_PH (v : Vector Word 16) : (s.writeW v).PH = s.PH := rfl
@[simp] theorem State.writeW_PR (v : Vector Word 16) : (s.writeW v).PR = s.PR := rfl
@[simp] theorem State.writeW_PS (v : Vector Word 16) : (s.writeW v).PS = s.PS := rfl
@[simp] theorem State.writeW_PV (v : Vector Word 16) : (s.writeW v).PV = s.PV := rfl
@[simp] theorem State.writeW_CTRL (v : Vector Word 16) : (s.writeW v).CTRL = s.CTRL := rfl
@[simp] theorem State.writeW_STATUS (v : Vector Word 16) : (s.writeW v).STATUS = s.STATUS := rfl
@[simp] theorem State.writeW_CAUSE (v : Vector Word 16) : (s.writeW v).CAUSE = s.CAUSE := rfl
@[simp] theorem State.writeW_ERRCMD (v : Vector Word 16) : (s.writeW v).ERRCMD = s.ERRCMD := rfl
@[simp] theorem State.writeW_CUR (v : Vector Word 16) : (s.writeW v).CUR = s.CUR := rfl
@[simp] theorem State.writeW_DMEM (v : Vector Word 16) : (s.writeW v).DMEM = s.DMEM := rfl
@[simp] theorem State.writeW_inputs (v : Vector Word 16) : (s.writeW v).inputs = s.inputs := rfl
@[simp] theorem State.writeW_answer (v : Vector Word 16) : (s.writeW v).answer = s.answer := rfl
@[simp] theorem State.writeW_draws (v : Vector Word 16) : (s.writeW v).draws = s.draws := rfl

@[simp] theorem State.invalidateW_params : s.invalidateW.params = s.params := rfl
@[simp] theorem State.invalidateW_X : s.invalidateW.X = s.X := rfl
@[simp] theorem State.invalidateW_F : s.invalidateW.F = s.F := rfl
@[simp] theorem State.invalidateW_S : s.invalidateW.S = s.S := rfl
@[simp] theorem State.invalidateW_P : s.invalidateW.P = s.P := rfl
@[simp] theorem State.invalidateW_W : s.invalidateW.W = Vector.replicate 16 0 := rfl
@[simp] theorem State.invalidateW_WV : s.invalidateW.WV = false := rfl
@[simp] theorem State.invalidateW_PH : s.invalidateW.PH = s.PH := rfl
@[simp] theorem State.invalidateW_PR : s.invalidateW.PR = s.PR := rfl
@[simp] theorem State.invalidateW_PS : s.invalidateW.PS = s.PS := rfl
@[simp] theorem State.invalidateW_PV : s.invalidateW.PV = s.PV := rfl
@[simp] theorem State.invalidateW_CTRL : s.invalidateW.CTRL = s.CTRL := rfl
@[simp] theorem State.invalidateW_STATUS : s.invalidateW.STATUS = s.STATUS := rfl
@[simp] theorem State.invalidateW_CAUSE : s.invalidateW.CAUSE = s.CAUSE := rfl
@[simp] theorem State.invalidateW_ERRCMD : s.invalidateW.ERRCMD = s.ERRCMD := rfl
@[simp] theorem State.invalidateW_CUR : s.invalidateW.CUR = s.CUR := rfl
@[simp] theorem State.invalidateW_DMEM : s.invalidateW.DMEM = s.DMEM := rfl
@[simp] theorem State.invalidateW_inputs : s.invalidateW.inputs = s.inputs := rfl
@[simp] theorem State.invalidateW_answer : s.invalidateW.answer = s.answer := rfl
@[simp] theorem State.invalidateW_draws : s.invalidateW.draws = s.draws := rfl

@[simp] theorem State.writePH_params (h : Nat) : (s.writePH h).params = s.params := rfl
@[simp] theorem State.writePH_X (h : Nat) : (s.writePH h).X = s.X := rfl
@[simp] theorem State.writePH_F (h : Nat) : (s.writePH h).F = s.F := rfl
@[simp] theorem State.writePH_S (h : Nat) : (s.writePH h).S = s.S := rfl
@[simp] theorem State.writePH_P (h : Nat) : (s.writePH h).P = s.P := rfl
@[simp] theorem State.writePH_W (h : Nat) : (s.writePH h).W = s.W := rfl
@[simp] theorem State.writePH_WV (h : Nat) : (s.writePH h).WV = s.WV := rfl
@[simp] theorem State.writePH_PH (h : Nat) : (s.writePH h).PH = h := rfl
@[simp] theorem State.writePH_PR (h : Nat) : (s.writePH h).PR = s.PR := rfl
@[simp] theorem State.writePH_PS (h : Nat) : (s.writePH h).PS = s.PS := rfl
@[simp] theorem State.writePH_PV (h : Nat) : (s.writePH h).PV = s.PV := rfl
@[simp] theorem State.writePH_CTRL (h : Nat) : (s.writePH h).CTRL = s.CTRL := rfl
@[simp] theorem State.writePH_STATUS (h : Nat) : (s.writePH h).STATUS = s.STATUS := rfl
@[simp] theorem State.writePH_CAUSE (h : Nat) : (s.writePH h).CAUSE = s.CAUSE := rfl
@[simp] theorem State.writePH_ERRCMD (h : Nat) : (s.writePH h).ERRCMD = s.ERRCMD := rfl
@[simp] theorem State.writePH_CUR (h : Nat) : (s.writePH h).CUR = s.CUR := rfl
@[simp] theorem State.writePH_DMEM (h : Nat) : (s.writePH h).DMEM = s.DMEM := rfl
@[simp] theorem State.writePH_inputs (h : Nat) : (s.writePH h).inputs = s.inputs := rfl
@[simp] theorem State.writePH_answer (h : Nat) : (s.writePH h).answer = s.answer := rfl
@[simp] theorem State.writePH_draws (h : Nat) : (s.writePH h).draws = s.draws := rfl

@[simp] theorem State.writePoly_params (h : Nat) (r k : BitVec 128) : (s.writePoly h r k).params = s.params := rfl
@[simp] theorem State.writePoly_X (h : Nat) (r k : BitVec 128) : (s.writePoly h r k).X = s.X := rfl
@[simp] theorem State.writePoly_F (h : Nat) (r k : BitVec 128) : (s.writePoly h r k).F = s.F := rfl
@[simp] theorem State.writePoly_S (h : Nat) (r k : BitVec 128) : (s.writePoly h r k).S = s.S := rfl
@[simp] theorem State.writePoly_P (h : Nat) (r k : BitVec 128) : (s.writePoly h r k).P = s.P := rfl
@[simp] theorem State.writePoly_W (h : Nat) (r k : BitVec 128) : (s.writePoly h r k).W = s.W := rfl
@[simp] theorem State.writePoly_WV (h : Nat) (r k : BitVec 128) : (s.writePoly h r k).WV = s.WV := rfl
@[simp] theorem State.writePoly_PH (h : Nat) (r k : BitVec 128) : (s.writePoly h r k).PH = h := rfl
@[simp] theorem State.writePoly_PR (h : Nat) (r k : BitVec 128) : (s.writePoly h r k).PR = r := rfl
@[simp] theorem State.writePoly_PS (h : Nat) (r k : BitVec 128) : (s.writePoly h r k).PS = k := rfl
@[simp] theorem State.writePoly_PV (h : Nat) (r k : BitVec 128) : (s.writePoly h r k).PV = true := rfl
@[simp] theorem State.writePoly_CTRL (h : Nat) (r k : BitVec 128) : (s.writePoly h r k).CTRL = s.CTRL := rfl
@[simp] theorem State.writePoly_STATUS (h : Nat) (r k : BitVec 128) : (s.writePoly h r k).STATUS = s.STATUS := rfl
@[simp] theorem State.writePoly_CAUSE (h : Nat) (r k : BitVec 128) : (s.writePoly h r k).CAUSE = s.CAUSE := rfl
@[simp] theorem State.writePoly_ERRCMD (h : Nat) (r k : BitVec 128) : (s.writePoly h r k).ERRCMD = s.ERRCMD := rfl
@[simp] theorem State.writePoly_CUR (h : Nat) (r k : BitVec 128) : (s.writePoly h r k).CUR = s.CUR := rfl
@[simp] theorem State.writePoly_DMEM (h : Nat) (r k : BitVec 128) : (s.writePoly h r k).DMEM = s.DMEM := rfl
@[simp] theorem State.writePoly_inputs (h : Nat) (r k : BitVec 128) : (s.writePoly h r k).inputs = s.inputs := rfl
@[simp] theorem State.writePoly_answer (h : Nat) (r k : BitVec 128) : (s.writePoly h r k).answer = s.answer := rfl
@[simp] theorem State.writePoly_draws (h : Nat) (r k : BitVec 128) : (s.writePoly h r k).draws = s.draws := rfl

@[simp] theorem State.invalidatePoly_params : s.invalidatePoly.params = s.params := rfl
@[simp] theorem State.invalidatePoly_X : s.invalidatePoly.X = s.X := rfl
@[simp] theorem State.invalidatePoly_F : s.invalidatePoly.F = s.F := rfl
@[simp] theorem State.invalidatePoly_S : s.invalidatePoly.S = s.S := rfl
@[simp] theorem State.invalidatePoly_P : s.invalidatePoly.P = s.P := rfl
@[simp] theorem State.invalidatePoly_W : s.invalidatePoly.W = s.W := rfl
@[simp] theorem State.invalidatePoly_WV : s.invalidatePoly.WV = s.WV := rfl
@[simp] theorem State.invalidatePoly_PH : s.invalidatePoly.PH = 0 := rfl
@[simp] theorem State.invalidatePoly_PR : s.invalidatePoly.PR = 0 := rfl
@[simp] theorem State.invalidatePoly_PS : s.invalidatePoly.PS = 0 := rfl
@[simp] theorem State.invalidatePoly_PV : s.invalidatePoly.PV = false := rfl
@[simp] theorem State.invalidatePoly_CTRL : s.invalidatePoly.CTRL = s.CTRL := rfl
@[simp] theorem State.invalidatePoly_STATUS : s.invalidatePoly.STATUS = s.STATUS := rfl
@[simp] theorem State.invalidatePoly_CAUSE : s.invalidatePoly.CAUSE = s.CAUSE := rfl
@[simp] theorem State.invalidatePoly_ERRCMD : s.invalidatePoly.ERRCMD = s.ERRCMD := rfl
@[simp] theorem State.invalidatePoly_CUR : s.invalidatePoly.CUR = s.CUR := rfl
@[simp] theorem State.invalidatePoly_DMEM : s.invalidatePoly.DMEM = s.DMEM := rfl
@[simp] theorem State.invalidatePoly_inputs : s.invalidatePoly.inputs = s.inputs := rfl
@[simp] theorem State.invalidatePoly_answer : s.invalidatePoly.answer = s.answer := rfl
@[simp] theorem State.invalidatePoly_draws : s.invalidatePoly.draws = s.draws := rfl

@[simp] theorem State.writeMem_params (a : Nat) (bs : List Byte) : (s.writeMem a bs).params = s.params := rfl
@[simp] theorem State.writeMem_X (a : Nat) (bs : List Byte) : (s.writeMem a bs).X = s.X := rfl
@[simp] theorem State.writeMem_F (a : Nat) (bs : List Byte) : (s.writeMem a bs).F = s.F := rfl
@[simp] theorem State.writeMem_S (a : Nat) (bs : List Byte) : (s.writeMem a bs).S = s.S := rfl
@[simp] theorem State.writeMem_P (a : Nat) (bs : List Byte) : (s.writeMem a bs).P = s.P := rfl
@[simp] theorem State.writeMem_W (a : Nat) (bs : List Byte) : (s.writeMem a bs).W = s.W := rfl
@[simp] theorem State.writeMem_WV (a : Nat) (bs : List Byte) : (s.writeMem a bs).WV = s.WV := rfl
@[simp] theorem State.writeMem_PH (a : Nat) (bs : List Byte) : (s.writeMem a bs).PH = s.PH := rfl
@[simp] theorem State.writeMem_PR (a : Nat) (bs : List Byte) : (s.writeMem a bs).PR = s.PR := rfl
@[simp] theorem State.writeMem_PS (a : Nat) (bs : List Byte) : (s.writeMem a bs).PS = s.PS := rfl
@[simp] theorem State.writeMem_PV (a : Nat) (bs : List Byte) : (s.writeMem a bs).PV = s.PV := rfl
@[simp] theorem State.writeMem_CTRL (a : Nat) (bs : List Byte) : (s.writeMem a bs).CTRL = s.CTRL := rfl
@[simp] theorem State.writeMem_STATUS (a : Nat) (bs : List Byte) : (s.writeMem a bs).STATUS = s.STATUS := rfl
@[simp] theorem State.writeMem_CAUSE (a : Nat) (bs : List Byte) : (s.writeMem a bs).CAUSE = s.CAUSE := rfl
@[simp] theorem State.writeMem_ERRCMD (a : Nat) (bs : List Byte) : (s.writeMem a bs).ERRCMD = s.ERRCMD := rfl
@[simp] theorem State.writeMem_CUR (a : Nat) (bs : List Byte) : (s.writeMem a bs).CUR = s.CUR := rfl
@[simp] theorem State.writeMem_DMEM (a : Nat) (bs : List Byte) : (s.writeMem a bs).DMEM = s.DMEM.writeBytes a bs := rfl
@[simp] theorem State.writeMem_inputs (a : Nat) (bs : List Byte) : (s.writeMem a bs).inputs = s.inputs := rfl
@[simp] theorem State.writeMem_answer (a : Nat) (bs : List Byte) : (s.writeMem a bs).answer = s.answer := rfl
@[simp] theorem State.writeMem_draws (a : Nat) (bs : List Byte) : (s.writeMem a bs).draws = s.draws := rfl

@[simp] theorem State.withMem_params (m : Memory) : (s.withMem m).params = s.params := rfl
@[simp] theorem State.withMem_X (m : Memory) : (s.withMem m).X = s.X := rfl
@[simp] theorem State.withMem_F (m : Memory) : (s.withMem m).F = s.F := rfl
@[simp] theorem State.withMem_S (m : Memory) : (s.withMem m).S = s.S := rfl
@[simp] theorem State.withMem_P (m : Memory) : (s.withMem m).P = s.P := rfl
@[simp] theorem State.withMem_W (m : Memory) : (s.withMem m).W = s.W := rfl
@[simp] theorem State.withMem_WV (m : Memory) : (s.withMem m).WV = s.WV := rfl
@[simp] theorem State.withMem_PH (m : Memory) : (s.withMem m).PH = s.PH := rfl
@[simp] theorem State.withMem_PR (m : Memory) : (s.withMem m).PR = s.PR := rfl
@[simp] theorem State.withMem_PS (m : Memory) : (s.withMem m).PS = s.PS := rfl
@[simp] theorem State.withMem_PV (m : Memory) : (s.withMem m).PV = s.PV := rfl
@[simp] theorem State.withMem_CTRL (m : Memory) : (s.withMem m).CTRL = s.CTRL := rfl
@[simp] theorem State.withMem_STATUS (m : Memory) : (s.withMem m).STATUS = s.STATUS := rfl
@[simp] theorem State.withMem_CAUSE (m : Memory) : (s.withMem m).CAUSE = s.CAUSE := rfl
@[simp] theorem State.withMem_ERRCMD (m : Memory) : (s.withMem m).ERRCMD = s.ERRCMD := rfl
@[simp] theorem State.withMem_CUR (m : Memory) : (s.withMem m).CUR = s.CUR := rfl
@[simp] theorem State.withMem_DMEM (m : Memory) : (s.withMem m).DMEM = m := rfl
@[simp] theorem State.withMem_inputs (m : Memory) : (s.withMem m).inputs = s.inputs := rfl
@[simp] theorem State.withMem_answer (m : Memory) : (s.withMem m).answer = s.answer := rfl
@[simp] theorem State.withMem_draws (m : Memory) : (s.withMem m).draws = s.draws := rfl

@[simp] theorem State.accept_params (w : Word) : (s.accept w).params = s.params := rfl
@[simp] theorem State.accept_X (w : Word) : (s.accept w).X = s.X := rfl
@[simp] theorem State.accept_F (w : Word) : (s.accept w).F = s.F := rfl
@[simp] theorem State.accept_S (w : Word) : (s.accept w).S = s.S := rfl
@[simp] theorem State.accept_P (w : Word) : (s.accept w).P = s.P := rfl
@[simp] theorem State.accept_W (w : Word) : (s.accept w).W = s.W := rfl
@[simp] theorem State.accept_WV (w : Word) : (s.accept w).WV = s.WV := rfl
@[simp] theorem State.accept_PH (w : Word) : (s.accept w).PH = s.PH := rfl
@[simp] theorem State.accept_PR (w : Word) : (s.accept w).PR = s.PR := rfl
@[simp] theorem State.accept_PS (w : Word) : (s.accept w).PS = s.PS := rfl
@[simp] theorem State.accept_PV (w : Word) : (s.accept w).PV = s.PV := rfl
@[simp] theorem State.accept_CTRL (w : Word) : (s.accept w).CTRL = s.CTRL := rfl
@[simp] theorem State.accept_STATUS (w : Word) : (s.accept w).STATUS = { s.STATUS with busy := true, done := false } := rfl
@[simp] theorem State.accept_CAUSE (w : Word) : (s.accept w).CAUSE = s.CAUSE := rfl
@[simp] theorem State.accept_ERRCMD (w : Word) : (s.accept w).ERRCMD = s.ERRCMD := rfl
@[simp] theorem State.accept_CUR (w : Word) : (s.accept w).CUR = w := rfl
@[simp] theorem State.accept_DMEM (w : Word) : (s.accept w).DMEM = s.DMEM := rfl
@[simp] theorem State.accept_inputs (w : Word) : (s.accept w).inputs = s.inputs := rfl
@[simp] theorem State.accept_answer (w : Word) : (s.accept w).answer = s.answer := rfl
@[simp] theorem State.accept_draws (w : Word) : (s.accept w).draws = s.draws := rfl

@[simp] theorem State.complete_params : s.complete.params = s.params := rfl
@[simp] theorem State.complete_X : s.complete.X = s.X := rfl
@[simp] theorem State.complete_F : s.complete.F = s.F := rfl
@[simp] theorem State.complete_S : s.complete.S = s.S := rfl
@[simp] theorem State.complete_P : s.complete.P = s.P := rfl
@[simp] theorem State.complete_W : s.complete.W = s.W := rfl
@[simp] theorem State.complete_WV : s.complete.WV = s.WV := rfl
@[simp] theorem State.complete_PH : s.complete.PH = s.PH := rfl
@[simp] theorem State.complete_PR : s.complete.PR = s.PR := rfl
@[simp] theorem State.complete_PS : s.complete.PS = s.PS := rfl
@[simp] theorem State.complete_PV : s.complete.PV = s.PV := rfl
@[simp] theorem State.complete_CTRL : s.complete.CTRL = s.CTRL := rfl
@[simp] theorem State.complete_STATUS : s.complete.STATUS = { s.STATUS with busy := false, done := true } := rfl
@[simp] theorem State.complete_CAUSE : s.complete.CAUSE = s.CAUSE := rfl
@[simp] theorem State.complete_ERRCMD : s.complete.ERRCMD = s.ERRCMD := rfl
@[simp] theorem State.complete_CUR : s.complete.CUR = s.CUR := rfl
@[simp] theorem State.complete_DMEM : s.complete.DMEM = s.DMEM := rfl
@[simp] theorem State.complete_inputs : s.complete.inputs = s.inputs := rfl
@[simp] theorem State.complete_answer : s.complete.answer = s.answer := rfl
@[simp] theorem State.complete_draws : s.complete.draws = s.draws := rfl

@[simp] theorem State.takeFault_params (c : Cause) : (s.takeFault c).params = s.params := rfl
@[simp] theorem State.takeFault_X (c : Cause) : (s.takeFault c).X = s.X := rfl
@[simp] theorem State.takeFault_F (c : Cause) : (s.takeFault c).F = s.F := rfl
@[simp] theorem State.takeFault_S (c : Cause) : (s.takeFault c).S = s.S := rfl
@[simp] theorem State.takeFault_P (c : Cause) : (s.takeFault c).P = s.P := rfl
@[simp] theorem State.takeFault_W (c : Cause) : (s.takeFault c).W = s.W := rfl
@[simp] theorem State.takeFault_WV (c : Cause) : (s.takeFault c).WV = s.WV := rfl
@[simp] theorem State.takeFault_PH (c : Cause) : (s.takeFault c).PH = s.PH := rfl
@[simp] theorem State.takeFault_PR (c : Cause) : (s.takeFault c).PR = s.PR := rfl
@[simp] theorem State.takeFault_PS (c : Cause) : (s.takeFault c).PS = s.PS := rfl
@[simp] theorem State.takeFault_PV (c : Cause) : (s.takeFault c).PV = s.PV := rfl
@[simp] theorem State.takeFault_CTRL (c : Cause) : (s.takeFault c).CTRL = s.CTRL := rfl
@[simp] theorem State.takeFault_STATUS (c : Cause) : (s.takeFault c).STATUS = { s.STATUS with busy := false, err := true } := rfl
@[simp] theorem State.takeFault_CAUSE (c : Cause) : (s.takeFault c).CAUSE = c.code := rfl
@[simp] theorem State.takeFault_ERRCMD (c : Cause) : (s.takeFault c).ERRCMD = s.CUR := rfl
@[simp] theorem State.takeFault_CUR (c : Cause) : (s.takeFault c).CUR = s.CUR := rfl
@[simp] theorem State.takeFault_DMEM (c : Cause) : (s.takeFault c).DMEM = s.DMEM := rfl
@[simp] theorem State.takeFault_inputs (c : Cause) : (s.takeFault c).inputs = s.inputs := rfl
@[simp] theorem State.takeFault_answer (c : Cause) : (s.takeFault c).answer = s.answer := rfl
@[simp] theorem State.takeFault_draws (c : Cause) : (s.takeFault c).draws = s.draws := rfl

@[simp] theorem State.writeClr_params (v : Word) : (s.writeClr v).params = s.params := rfl
@[simp] theorem State.writeClr_X (v : Word) : (s.writeClr v).X = s.X := rfl
@[simp] theorem State.writeClr_F (v : Word) : (s.writeClr v).F = s.F := rfl
@[simp] theorem State.writeClr_S (v : Word) : (s.writeClr v).S = s.S := rfl
@[simp] theorem State.writeClr_P (v : Word) : (s.writeClr v).P = s.P := rfl
@[simp] theorem State.writeClr_W (v : Word) : (s.writeClr v).W = s.W := rfl
@[simp] theorem State.writeClr_WV (v : Word) : (s.writeClr v).WV = s.WV := rfl
@[simp] theorem State.writeClr_PH (v : Word) : (s.writeClr v).PH = s.PH := rfl
@[simp] theorem State.writeClr_PR (v : Word) : (s.writeClr v).PR = s.PR := rfl
@[simp] theorem State.writeClr_PS (v : Word) : (s.writeClr v).PS = s.PS := rfl
@[simp] theorem State.writeClr_PV (v : Word) : (s.writeClr v).PV = s.PV := rfl
@[simp] theorem State.writeClr_CTRL (v : Word) : (s.writeClr v).CTRL = s.CTRL := rfl
@[simp] theorem State.writeClr_STATUS (v : Word) : (s.writeClr v).STATUS = { s.STATUS with done := s.STATUS.done && !v.getLsbD 1, err := s.STATUS.err && !v.getLsbD 2 } := rfl
@[simp] theorem State.writeClr_CAUSE (v : Word) : (s.writeClr v).CAUSE = if v.getLsbD 2 then 0 else s.CAUSE := rfl
@[simp] theorem State.writeClr_ERRCMD (v : Word) : (s.writeClr v).ERRCMD = if v.getLsbD 2 then 0 else s.ERRCMD := rfl
@[simp] theorem State.writeClr_CUR (v : Word) : (s.writeClr v).CUR = s.CUR := rfl
@[simp] theorem State.writeClr_DMEM (v : Word) : (s.writeClr v).DMEM = s.DMEM := rfl
@[simp] theorem State.writeClr_inputs (v : Word) : (s.writeClr v).inputs = s.inputs := rfl
@[simp] theorem State.writeClr_answer (v : Word) : (s.writeClr v).answer = s.answer := rfl
@[simp] theorem State.writeClr_draws (v : Word) : (s.writeClr v).draws = s.draws := rfl

@[simp] theorem State.withInputs_params (l : List Input) : (s.withInputs l).params = s.params := rfl
@[simp] theorem State.withInputs_X (l : List Input) : (s.withInputs l).X = s.X := rfl
@[simp] theorem State.withInputs_F (l : List Input) : (s.withInputs l).F = s.F := rfl
@[simp] theorem State.withInputs_S (l : List Input) : (s.withInputs l).S = s.S := rfl
@[simp] theorem State.withInputs_P (l : List Input) : (s.withInputs l).P = s.P := rfl
@[simp] theorem State.withInputs_W (l : List Input) : (s.withInputs l).W = s.W := rfl
@[simp] theorem State.withInputs_WV (l : List Input) : (s.withInputs l).WV = s.WV := rfl
@[simp] theorem State.withInputs_PH (l : List Input) : (s.withInputs l).PH = s.PH := rfl
@[simp] theorem State.withInputs_PR (l : List Input) : (s.withInputs l).PR = s.PR := rfl
@[simp] theorem State.withInputs_PS (l : List Input) : (s.withInputs l).PS = s.PS := rfl
@[simp] theorem State.withInputs_PV (l : List Input) : (s.withInputs l).PV = s.PV := rfl
@[simp] theorem State.withInputs_CTRL (l : List Input) : (s.withInputs l).CTRL = s.CTRL := rfl
@[simp] theorem State.withInputs_STATUS (l : List Input) : (s.withInputs l).STATUS = s.STATUS := rfl
@[simp] theorem State.withInputs_CAUSE (l : List Input) : (s.withInputs l).CAUSE = s.CAUSE := rfl
@[simp] theorem State.withInputs_ERRCMD (l : List Input) : (s.withInputs l).ERRCMD = s.ERRCMD := rfl
@[simp] theorem State.withInputs_CUR (l : List Input) : (s.withInputs l).CUR = s.CUR := rfl
@[simp] theorem State.withInputs_DMEM (l : List Input) : (s.withInputs l).DMEM = s.DMEM := rfl
@[simp] theorem State.withInputs_inputs (l : List Input) : (s.withInputs l).inputs = l := rfl
@[simp] theorem State.withInputs_answer (l : List Input) : (s.withInputs l).answer = s.answer := rfl
@[simp] theorem State.withInputs_draws (l : List Input) : (s.withInputs l).draws = s.draws := rfl

@[simp] theorem State.countDraw_params : s.countDraw.params = s.params := rfl
@[simp] theorem State.countDraw_X : s.countDraw.X = s.X := rfl
@[simp] theorem State.countDraw_F : s.countDraw.F = s.F := rfl
@[simp] theorem State.countDraw_S : s.countDraw.S = s.S := rfl
@[simp] theorem State.countDraw_P : s.countDraw.P = s.P := rfl
@[simp] theorem State.countDraw_W : s.countDraw.W = s.W := rfl
@[simp] theorem State.countDraw_WV : s.countDraw.WV = s.WV := rfl
@[simp] theorem State.countDraw_PH : s.countDraw.PH = s.PH := rfl
@[simp] theorem State.countDraw_PR : s.countDraw.PR = s.PR := rfl
@[simp] theorem State.countDraw_PS : s.countDraw.PS = s.PS := rfl
@[simp] theorem State.countDraw_PV : s.countDraw.PV = s.PV := rfl
@[simp] theorem State.countDraw_CTRL : s.countDraw.CTRL = s.CTRL := rfl
@[simp] theorem State.countDraw_STATUS : s.countDraw.STATUS = s.STATUS := rfl
@[simp] theorem State.countDraw_CAUSE : s.countDraw.CAUSE = s.CAUSE := rfl
@[simp] theorem State.countDraw_ERRCMD : s.countDraw.ERRCMD = s.ERRCMD := rfl
@[simp] theorem State.countDraw_CUR : s.countDraw.CUR = s.CUR := rfl
@[simp] theorem State.countDraw_DMEM : s.countDraw.DMEM = s.DMEM := rfl
@[simp] theorem State.countDraw_inputs : s.countDraw.inputs = s.inputs := rfl
@[simp] theorem State.countDraw_answer : s.countDraw.answer = s.answer := rfl
@[simp] theorem State.countDraw_draws : s.countDraw.draws = s.draws + 1 := rfl

@[simp] theorem State.wipe_params : s.wipe.params = s.params := rfl
@[simp] theorem State.wipe_X : s.wipe.X = Vector.replicate 16 0 := rfl
@[simp] theorem State.wipe_F : s.wipe.F = Vector.replicate 16 (Slot.invalid 0) := rfl
@[simp] theorem State.wipe_S : s.wipe.S = Vector.replicate 16 (Slot.invalid 0) := rfl
@[simp] theorem State.wipe_P : s.wipe.P = Vector.replicate 16 (Slot.invalid Point.zero) := rfl
@[simp] theorem State.wipe_W : s.wipe.W = Vector.replicate 16 0 := rfl
@[simp] theorem State.wipe_WV : s.wipe.WV = false := rfl
@[simp] theorem State.wipe_PH : s.wipe.PH = 0 := rfl
@[simp] theorem State.wipe_PR : s.wipe.PR = 0 := rfl
@[simp] theorem State.wipe_PS : s.wipe.PS = 0 := rfl
@[simp] theorem State.wipe_PV : s.wipe.PV = false := rfl
@[simp] theorem State.wipe_CTRL : s.wipe.CTRL = s.CTRL := rfl
@[simp] theorem State.wipe_STATUS : s.wipe.STATUS = s.STATUS := rfl
@[simp] theorem State.wipe_CAUSE : s.wipe.CAUSE = s.CAUSE := rfl
@[simp] theorem State.wipe_ERRCMD : s.wipe.ERRCMD = s.ERRCMD := rfl
@[simp] theorem State.wipe_CUR : s.wipe.CUR = s.CUR := rfl
@[simp] theorem State.wipe_DMEM : s.wipe.DMEM = Memory.wiped := rfl
@[simp] theorem State.wipe_inputs : s.wipe.inputs = s.inputs := rfl
@[simp] theorem State.wipe_answer : s.wipe.answer = s.answer := rfl
@[simp] theorem State.wipe_draws : s.wipe.draws = s.draws := rfl

@[simp] theorem State.hardReset_params (l : List Input) : (s.hardReset l).params = s.params := rfl
@[simp] theorem State.hardReset_X (l : List Input) : (s.hardReset l).X = Vector.replicate 16 0 := rfl
@[simp] theorem State.hardReset_F (l : List Input) : (s.hardReset l).F = Vector.replicate 16 (Slot.invalid 0) := rfl
@[simp] theorem State.hardReset_S (l : List Input) : (s.hardReset l).S = Vector.replicate 16 (Slot.invalid 0) := rfl
@[simp] theorem State.hardReset_P (l : List Input) : (s.hardReset l).P = Vector.replicate 16 (Slot.invalid Point.zero) := rfl
@[simp] theorem State.hardReset_W (l : List Input) : (s.hardReset l).W = Vector.replicate 16 0 := rfl
@[simp] theorem State.hardReset_WV (l : List Input) : (s.hardReset l).WV = false := rfl
@[simp] theorem State.hardReset_PH (l : List Input) : (s.hardReset l).PH = 0 := rfl
@[simp] theorem State.hardReset_PR (l : List Input) : (s.hardReset l).PR = 0 := rfl
@[simp] theorem State.hardReset_PS (l : List Input) : (s.hardReset l).PS = 0 := rfl
@[simp] theorem State.hardReset_PV (l : List Input) : (s.hardReset l).PV = false := rfl
@[simp] theorem State.hardReset_CTRL (l : List Input) : (s.hardReset l).CTRL = ⟨false, false⟩ := rfl
@[simp] theorem State.hardReset_STATUS (l : List Input) : (s.hardReset l).STATUS = ⟨false, false, false⟩ := rfl
@[simp] theorem State.hardReset_CAUSE (l : List Input) : (s.hardReset l).CAUSE = 0 := rfl
@[simp] theorem State.hardReset_ERRCMD (l : List Input) : (s.hardReset l).ERRCMD = 0 := rfl
@[simp] theorem State.hardReset_CUR (l : List Input) : (s.hardReset l).CUR = 0 := rfl
@[simp] theorem State.hardReset_DMEM (l : List Input) : (s.hardReset l).DMEM = ⟨.drawn s.draws, []⟩ := rfl
@[simp] theorem State.hardReset_inputs (l : List Input) : (s.hardReset l).inputs = l := rfl
@[simp] theorem State.hardReset_answer (l : List Input) : (s.hardReset l).answer = .none := rfl
@[simp] theorem State.hardReset_draws (l : List Input) : (s.hardReset l).draws = s.draws + 1 := rfl

@[simp] theorem State.writeUnpacked_params (d : PReg) (b : XReg) (y : Nat) (o : Option Nat) :
    (s.writeUnpacked d b y o).params = s.params := rfl
@[simp] theorem State.writeUnpacked_X (d : PReg) (b : XReg) (y : Nat) (o : Option Nat) :
    (s.writeUnpacked d b y o).X = s.X.set b (boolWord o.isSome) := rfl
@[simp] theorem State.writeUnpacked_F (d : PReg) (b : XReg) (y : Nat) (o : Option Nat) :
    (s.writeUnpacked d b y o).F = s.F := rfl
@[simp] theorem State.writeUnpacked_S (d : PReg) (b : XReg) (y : Nat) (o : Option Nat) :
    (s.writeUnpacked d b y o).S = s.S := rfl
@[simp] theorem State.writeUnpacked_none_P (d : PReg) (b : XReg) (y : Nat) :
    (s.writeUnpacked d b y none).P = s.P.set d (Slot.invalid Point.zero) := rfl
@[simp] theorem State.writeUnpacked_some_P (d : PReg) (b : XReg) (y x : Nat) :
    (s.writeUnpacked d b y (some x)).P = s.P.set d ⟨true, ⟨x, y⟩⟩ := rfl
@[simp] theorem State.writeUnpacked_W (d : PReg) (b : XReg) (y : Nat) (o : Option Nat) :
    (s.writeUnpacked d b y o).W = s.W := rfl
@[simp] theorem State.writeUnpacked_WV (d : PReg) (b : XReg) (y : Nat) (o : Option Nat) :
    (s.writeUnpacked d b y o).WV = s.WV := rfl
@[simp] theorem State.writeUnpacked_PH (d : PReg) (b : XReg) (y : Nat) (o : Option Nat) :
    (s.writeUnpacked d b y o).PH = s.PH := rfl
@[simp] theorem State.writeUnpacked_PR (d : PReg) (b : XReg) (y : Nat) (o : Option Nat) :
    (s.writeUnpacked d b y o).PR = s.PR := rfl
@[simp] theorem State.writeUnpacked_PS (d : PReg) (b : XReg) (y : Nat) (o : Option Nat) :
    (s.writeUnpacked d b y o).PS = s.PS := rfl
@[simp] theorem State.writeUnpacked_PV (d : PReg) (b : XReg) (y : Nat) (o : Option Nat) :
    (s.writeUnpacked d b y o).PV = s.PV := rfl
@[simp] theorem State.writeUnpacked_CTRL (d : PReg) (b : XReg) (y : Nat) (o : Option Nat) :
    (s.writeUnpacked d b y o).CTRL = s.CTRL := rfl
@[simp] theorem State.writeUnpacked_STATUS (d : PReg) (b : XReg) (y : Nat) (o : Option Nat) :
    (s.writeUnpacked d b y o).STATUS = s.STATUS := rfl
@[simp] theorem State.writeUnpacked_CAUSE (d : PReg) (b : XReg) (y : Nat) (o : Option Nat) :
    (s.writeUnpacked d b y o).CAUSE = s.CAUSE := rfl
@[simp] theorem State.writeUnpacked_ERRCMD (d : PReg) (b : XReg) (y : Nat) (o : Option Nat) :
    (s.writeUnpacked d b y o).ERRCMD = s.ERRCMD := rfl
@[simp] theorem State.writeUnpacked_CUR (d : PReg) (b : XReg) (y : Nat) (o : Option Nat) :
    (s.writeUnpacked d b y o).CUR = s.CUR := rfl
@[simp] theorem State.writeUnpacked_DMEM (d : PReg) (b : XReg) (y : Nat) (o : Option Nat) :
    (s.writeUnpacked d b y o).DMEM = s.DMEM := rfl
@[simp] theorem State.writeUnpacked_inputs (d : PReg) (b : XReg) (y : Nat) (o : Option Nat) :
    (s.writeUnpacked d b y o).inputs = s.inputs := rfl
@[simp] theorem State.writeUnpacked_answer (d : PReg) (b : XReg) (y : Nat) (o : Option Nat) :
    (s.writeUnpacked d b y o).answer = s.answer := rfl
@[simp] theorem State.writeUnpacked_draws (d : PReg) (b : XReg) (y : Nat) (o : Option Nat) :
    (s.writeUnpacked d b y o).draws = s.draws := rfl

end Sys2Proof.Machine
end

