-- ==== Sys2Proof/Laws/Operands.lean ====
section
/-! SUPPORT. What each operand form, each shared operation of the meanings and the end of a command can do: cite these, and
unfold none of them. -/

namespace Sys2Proof.Machine

-- One theorem at a time: many at once ask for more threads than a memory limit may allow.
set_option Elab.async false

variable {s t : State}

/-! ## The end of a command -/

@[simp] theorem State.finish_ok (s t : State) : s.finish (.ok t) = .next t.complete := rfl

@[simp] theorem State.finish_pure (s t : State) : s.finish (pure t) = .next t.complete := rfl

@[simp] theorem State.finish_error (s : State) (c : Cause) : s.finish (.error c) = .next (s.takeFault c) := rfl

/-- A command ends in exactly one of two ways (10_state.md R52). -/
theorem State.finish_next {r : Except Cause State} :
    s.finish r = .next t ↔ (∃ u, r = .ok u ∧ t = u.complete) ∨ (∃ c, r = .error c ∧ t = s.takeFault c) := by
  cases r with
  | ok u => simp [eq_comm]
  | error c => simp [eq_comm]

/-! ## Checks -/

@[simp] theorem check_true (c : Cause) : check true c = .ok () := rfl

@[simp] theorem check_false (c : Cause) : check false c = .error c := rfl

/-- Sequencing after a value. -/
@[simp] theorem ok_bind {α β : Type} (v : α) (g : α → Except Cause β) : (Except.ok v >>= g) = g v := rfl

/-- Sequencing after a fault. -/
@[simp] theorem error_bind {α β : Type} (c : Cause) (g : α → Except Cause β) : (Except.error c >>= g) = .error c := rfl

@[simp] theorem pure_ok {α : Type} (v : α) : (pure v : Except Cause α) = .ok v := rfl

theorem Slot.need_valid {α : Type} {r : Slot α} (h : r.valid = true) : r.need = .ok r.value := by simp [Slot.need, h]

theorem Slot.need_invalid {α : Type} {r : Slot α} (h : r.valid = false) : r.need = .error .uninit := by
  simp [Slot.need, h]

theorem State.needF_valid {i : FReg} (h : s.F[i].valid = true) : s.needF i = .ok s.F[i].value := Slot.need_valid h

theorem State.needF_invalid {i : FReg} (h : s.F[i].valid = false) : s.needF i = .error .uninit := Slot.need_invalid h

theorem State.needS_valid {i : SReg} (h : s.S[i].valid = true) : s.needS i = .ok s.S[i].value := Slot.need_valid h

theorem State.needS_invalid {i : SReg} (h : s.S[i].valid = false) : s.needS i = .error .uninit := Slot.need_invalid h

theorem State.needP_valid {i : PReg} (h : s.P[i].valid = true) : s.needP i = .ok s.P[i].value := Slot.need_valid h

theorem State.needP_invalid {i : PReg} (h : s.P[i].valid = false) : s.needP i = .error .uninit := Slot.need_invalid h

theorem State.needW_valid (h : s.WV = true) : s.needW = .ok s.W := by simp [State.needW, h]

theorem State.needW_invalid (h : s.WV = false) : s.needW = .error .uninit := by simp [State.needW, h]

theorem State.needPoly_valid (h : s.PV = true) : s.needPoly = .ok () := by simp [State.needPoly, h]

theorem State.needPoly_invalid (h : s.PV = false) : s.needPoly = .error .uninit := by simp [State.needPoly, h]

/-! ## DMEM operands -/

/-- The range check of 20_memory.md R74. -/
theorem State.inRange_iff {a n : Nat} : s.inRange a n = true ↔ n = 0 ∨ a + n ≤ s.params.dmemBytes := by
  simp [State.inRange]

theorem State.needRange_legal {a n : Nat} (h : s.inRange a n = true) : s.needRange a n = .ok () := by
  simp [State.needRange, h]

theorem State.needRange_illegal {a n : Nat} (h : s.inRange a n = false) : s.needRange a n = .error .addrRange := by
  simp [State.needRange, h]

theorem State.needBytes_legal {i : XReg} {n : Nat} (h : s.inRange (s.xVal i) n = true) :
    s.needBytes i n = .ok (s.DMEM.readBytes (s.xVal i) n) := by
  simp [State.needBytes, State.needRange_legal h]

theorem State.needBytes_illegal {i : XReg} {n : Nat} (h : s.inRange (s.xVal i) n = false) :
    s.needBytes i n = .error .addrRange := by
  simp [State.needBytes, State.needRange_illegal h]

theorem State.needDest_legal {i : XReg} {n : Nat} (h : s.inRange (s.xVal i) n = true) :
    s.needDest i n = .ok (s.xVal i) := by
  simp [State.needDest, State.needRange_legal h]

theorem State.needDest_illegal {i : XReg} {n : Nat} (h : s.inRange (s.xVal i) n = false) :
    s.needDest i n = .error .addrRange := by
  simp [State.needDest, State.needRange_illegal h]

/-! ## What an operand form answers, if it answers -/

theorem check_ok {b : Bool} {c : Cause} {u : Unit} : check b c = .ok u ↔ b = true := by cases b <;> simp

theorem bind_ok {α β : Type} {x : Except Cause α} {g : α → Except Cause β} {v : β} :
    (x >>= g) = .ok v ↔ ∃ u, x = .ok u ∧ g u = .ok v := by
  cases x with
  | ok u => simp
  | error c => simp

theorem Slot.need_ok {α : Type} {r : Slot α} {v : α} : r.need = .ok v ↔ r.valid = true ∧ r.value = v := by
  cases h : r.valid <;> simp [Slot.need, h]

theorem State.needF_ok {i : FReg} {v : Nat} : s.needF i = .ok v ↔ s.F[i].valid = true ∧ s.F[i].value = v := Slot.need_ok

theorem State.needS_ok {i : SReg} {v : Nat} : s.needS i = .ok v ↔ s.S[i].valid = true ∧ s.S[i].value = v := Slot.need_ok

theorem State.needP_ok {i : PReg} {v : Point} : s.needP i = .ok v ↔ s.P[i].valid = true ∧ s.P[i].value = v :=
  Slot.need_ok

theorem State.needW_ok {w : Vector Word 16} : s.needW = .ok w ↔ s.WV = true ∧ s.W = w := by
  cases h : s.WV <;> simp [State.needW, h]

theorem State.needPoly_ok {u : Unit} : s.needPoly = .ok u ↔ s.PV = true := check_ok

theorem State.needRange_ok {a n : Nat} {u : Unit} : s.needRange a n = .ok u ↔ s.inRange a n = true := check_ok

theorem State.needBytes_ok {i : XReg} {n : Nat} {bs : List Byte} :
    s.needBytes i n = .ok bs ↔ s.inRange (s.xVal i) n = true ∧ s.DMEM.readBytes (s.xVal i) n = bs := by
  simp [State.needBytes, bind_ok, State.needRange_ok]

theorem State.needDest_ok {i : XReg} {n q : Nat} :
    s.needDest i n = .ok q ↔ s.inRange (s.xVal i) n = true ∧ s.xVal i = q := by
  simp [State.needDest, bind_ok, State.needRange_ok]

/-! ## The shared operations of the meanings -/

/-- `F[d] <- g(F[a], F[b])`, if it answers. -/
theorem State.fieldBinary_ok {g : Nat → Nat → Nat} {d a b : FReg} :
    s.fieldBinary g d a b = .ok t ↔
      s.F[a].valid = true ∧ s.F[b].valid = true ∧ t = s.writeF d (g s.F[a].value s.F[b].value) := by
  simp [State.fieldBinary, bind_ok, State.needF_ok, @eq_comm State t]

/-- `F[d] <- g(F[a])`, if it answers. -/
theorem State.fieldUnary_ok {g : Nat → Nat} {d a : FReg} :
    s.fieldUnary g d a = .ok t ↔ s.F[a].valid = true ∧ t = s.writeF d (g s.F[a].value) := by
  simp [State.fieldUnary, bind_ok, State.needF_ok, @eq_comm State t]

/-- `S[d] <- LE(bytes) mod l`, if it answers. -/
theorem State.scalarLoad_ok {n : Nat} {d : SReg} {a : XReg} :
    s.scalarLoad n d a = .ok t ↔
      s.inRange (s.xVal a) n = true ∧ t = s.writeS d (leVal (s.DMEM.readBytes (s.xVal a) n) % ell) := by
  simp [State.scalarLoad, bind_ok, State.needBytes_ok, @eq_comm State t]

/-- `S[d] <- g(S[a], S[b])`, if it answers. -/
theorem State.scalarBinary_ok {g : Nat → Nat → Nat} {d a b : SReg} :
    s.scalarBinary g d a b = .ok t ↔
      s.S[a].valid = true ∧ s.S[b].valid = true ∧ t = s.writeS d (g s.S[a].value s.S[b].value) := by
  simp [State.scalarBinary, bind_ok, State.needS_ok, @eq_comm State t]

/-- A composite Salsa20 command, if it answers. -/
theorem State.salsaComposite_ok {core : List Byte → List Byte → List Byte → List Byte} {n : Nat} {d a b c : XReg} :
    s.salsaComposite core n d a b c = .ok t ↔
      s.inRange (s.xVal a) 16 = true ∧ s.inRange (s.xVal b) 32 = true ∧ s.inRange (s.xVal c) 16 = true ∧
        s.inRange (s.xVal d) n = true ∧
        t = (s.writeMem (s.xVal d) (core (s.DMEM.readBytes (s.xVal a) 16) (s.DMEM.readBytes (s.xVal b) 32)
          (s.DMEM.readBytes (s.xVal c) 16))).invalidateW := by
  simp [State.salsaComposite, bind_ok, State.needBytes_ok, State.needDest_ok, @eq_comm State t, and_assoc]

/-- A keystream command, if it answers. -/
theorem State.streamOut_ok {ks : List Byte → List Byte → Nat → List Byte} {n : Nat} {d a b c : XReg} :
    s.streamOut ks n d a b c = .ok t ↔
      s.inRange (s.xVal b) n = true ∧ s.inRange (s.xVal c) 32 = true ∧ s.inRange (s.xVal d) (s.xVal a) = true ∧
        t = (s.writeMem (s.xVal d) (ks (s.DMEM.readBytes (s.xVal b) n) (s.DMEM.readBytes (s.xVal c) 32)
          (s.xVal a))).invalidateW := by
  simp [State.streamOut, bind_ok, State.needBytes_ok, State.needDest_ok, @eq_comm State t, and_assoc]

/-- An XOR command, if it answers. -/
theorem State.streamXor_ok {ks : List Byte → List Byte → Nat → List Byte} {n : Nat} {d a b c e f : XReg} :
    s.streamXor ks n d a b c e f = .ok t ↔
      s.xVal f ≤ 63 ∧ s.inRange (s.xVal a) (s.xVal b) = true ∧ s.inRange (s.xVal c) n = true ∧
        s.inRange (s.xVal e) 32 = true ∧ s.inRange (s.xVal d) (s.xVal f + s.xVal b) = true ∧
        t = (s.withMem (streamLoop s.DMEM (s.xVal d) (s.xVal a) (s.xVal f) (ks (s.DMEM.readBytes (s.xVal c) n)
          (s.DMEM.readBytes (s.xVal e) 32) (s.xVal f + s.xVal b)))).invalidateW := by
  simp [State.streamXor, bind_ok, check_ok, State.needRange_ok, State.needBytes_ok, State.needDest_ok, @eq_comm State t,
    and_assoc]

/-- Every meaning ends by the one operation that ends commands. -/
theorem exec_finish (i : Instr) (s : State) : ∃ r : Except Cause State, exec i s = s.finish r := by
  cases i <;> first | exact ⟨.ok _, rfl⟩ | exact ⟨_, rfl⟩

end Sys2Proof.Machine
end

