-- ==== Sys2Proof/Laws/Step.lean ====
section
/-! SUPPORT. What a step can do, case by case, and what a host access can do. Cite these and unfold neither `cycle` nor
`State.perform`. -/

namespace Sys2Proof.Machine

-- One theorem at a time: many at once ask for more threads than a memory limit may allow.
set_option Elab.async false

variable {s t : State} {a : Access} {later : List Input}

/-! ## The cases of a step -/

/-- A reset overrides everything (70_reset_and_hazards.md R380). -/
theorem step_reset (h : s.inputs = .reset :: later) : step s = .next (s.hardReset later) := by simp [step, cycle, h]

/-- Idle, with nothing at the port (60_exceptions.md R365). -/
theorem step_idle (hb : s.STATUS.busy = false) (h : s.inputs = []) : step s = .next s := by simp [step, cycle, h, hb]

/-- Not busy, with an access at the port. -/
theorem step_access (hb : s.STATUS.busy = false) (h : s.inputs = .access a :: later) :
    step s = .next ((s.withInputs later).perform a) := by simp [step, cycle, h, hb]

/-- Busy, with nothing at the port. -/
theorem step_run (hb : s.STATUS.busy = true) (h : s.inputs = []) : step s = runCurrent s := by simp [step, cycle, h, hb]

/-- Busy, with an access that is held (20_memory.md R83). -/
theorem step_held (hb : s.STATUS.busy = true) (h : s.inputs = .access a :: later) (ha : a.neverHeld = false) :
    step s = runCurrent s := by simp [step, cycle, h, hb, ha]

/-- Busy, with an access that is never held and is served first (log 2). -/
theorem step_served (hb : s.STATUS.busy = true) (h : s.inputs = .access a :: later) (ha : a.neverHeld = true)
    (hc : Config.readServedWhileBusy s.draws = true) : step s = .next ((s.withInputs later).countDraw.perform a) := by
  simp [step, cycle, h, hb, ha, hc]

/-- Busy, with an access that is never held and is served after the command (log 2). -/
theorem step_unserved (hb : s.STATUS.busy = true) (h : s.inputs = .access a :: later) (ha : a.neverHeld = true)
    (hc : Config.readServedWhileBusy s.draws = false) : step s = runCurrent s.countDraw := by
  simp [step, cycle, h, hb, ha, hc]

/-- What a step can do, said once: a reset, idleness, an access, or the word in CUR. -/
theorem step_next (h : step s = .next t) :
    (∃ later, s.inputs = .reset :: later ∧ t = s.hardReset later) ∨
    (s.STATUS.busy = false ∧ s.inputs = [] ∧ t = s) ∨
    (s.STATUS.busy = false ∧ ∃ a later, s.inputs = .access a :: later ∧ t = (s.withInputs later).perform a) ∨
    (s.STATUS.busy = true ∧ ∃ a later, s.inputs = .access a :: later ∧ a.neverHeld = true ∧
      t = (s.withInputs later).countDraw.perform a) ∨
    (s.STATUS.busy = true ∧ (runCurrent s = .next t ∨ runCurrent s.countDraw = .next t)) := by
  match hi : s.inputs with
  | .reset :: later =>
    rw [step_reset hi] at h
    cases h
    exact .inl ⟨later, rfl, rfl⟩
  | [] =>
    cases hb : s.STATUS.busy with
    | false =>
      rw [step_idle hb hi] at h
      cases h
      exact .inr (.inl ⟨rfl, rfl, rfl⟩)
    | true =>
      rw [step_run hb hi] at h
      exact .inr (.inr (.inr (.inr ⟨rfl, .inl h⟩)))
  | .access a :: later =>
    cases hb : s.STATUS.busy with
    | false =>
      rw [step_access hb hi] at h
      cases h
      exact .inr (.inr (.inl ⟨rfl, a, later, rfl, rfl⟩))
    | true =>
      cases ha : a.neverHeld with
      | false =>
        rw [step_held hb hi ha] at h
        exact .inr (.inr (.inr (.inr ⟨rfl, .inl h⟩)))
      | true =>
        cases hc : Config.readServedWhileBusy s.draws with
        | true =>
          rw [step_served hb hi ha hc] at h
          cases h
          exact .inr (.inr (.inr (.inl ⟨rfl, a, later, rfl, ha, rfl⟩)))
        | false =>
          rw [step_unserved hb hi ha hc] at h
          exact .inr (.inr (.inr (.inr ⟨rfl, .inr h⟩)))

/-! ## The word in CUR -/

/-- A word that decodes runs its command. -/
theorem runCurrent_ok {i : Instr} (h : decode s.CUR = .ok i) : runCurrent s = exec i s := by simp [runCurrent, h]

/-- A word that does not decode faults. -/
theorem runCurrent_error {e : DecodeError} (h : decode s.CUR = .error e) :
    runCurrent s = .next (s.takeFault (causeOf e)) := by simp [runCurrent, h]

/-- Running the word in CUR always ends, and with BUSY = 0 (10_state.md R52). -/
theorem runCurrent_next (s : State) : ∃ t, runCurrent s = .next t ∧ t.STATUS.busy = false := by
  cases hd : decode s.CUR with
  | error e => exact ⟨_, runCurrent_error hd, rfl⟩
  | ok i =>
    obtain ⟨r, hr⟩ := exec_finish i s
    rw [runCurrent_ok hd, hr]
    cases r with
    | ok u => exact ⟨_, rfl, rfl⟩
    | error c => exact ⟨_, rfl, rfl⟩

/-! ## Host accesses -/

theorem perform_read {width : Width} {offset : Nat} {v : Word} (h : s.hostRead width offset = some v) :
    s.perform (.read width offset) = { s with answer := .data v } := by simp [State.perform, h]

theorem perform_read_error {width : Width} {offset : Nat} (h : s.hostRead width offset = none) :
    s.perform (.read width offset) = { s with answer := .busError } := by simp [State.perform, h]

theorem perform_write {width : Width} {offset : Nat} {v : Word} (h : s.hostWrite width offset v = some t) :
    s.perform (.write width offset v) = { t with answer := .done } := by simp [State.perform, h]

theorem perform_write_error {width : Width} {offset : Nat} {v : Word} (h : s.hostWrite width offset v = none) :
    s.perform (.write width offset v) = { s with answer := .busError } := by simp [State.perform, h]

/-- A word access to a register offset that is a multiple of 4. -/
theorem hostRead_reg {offset : Nat} (h : offset < 0x10000) (h4 : offset % 4 = 0) :
    s.hostRead .word offset = s.readReg offset := by
  simp [State.hostRead, windowBase, Width.bytes, h, h4]

theorem hostWrite_reg {offset : Nat} {v : Word} (h : offset < 0x10000) (h4 : offset % 4 = 0) :
    s.hostWrite .word offset v = s.writeReg offset v := by
  simp [State.hostWrite, windowBase, Width.bytes, h, h4]

/-- A narrower access to a register offset. -/
theorem hostRead_narrow {width : Width} {offset : Nat} (h : offset < 0x10000) (hw : width ≠ .word) :
    s.hostRead width offset = none := by
  simp [State.hostRead, windowBase, h, hw]

theorem hostWrite_narrow {width : Width} {offset : Nat} {v : Word} (h : offset < 0x10000) (hw : width ≠ .word) :
    s.hostWrite width offset v = none := by
  simp [State.hostWrite, windowBase, h, hw]

/-- An aligned access inside the window. -/
theorem hostRead_window {width : Width} {x : Nat} (ha : x % width.bytes = 0) (h : x + width.bytes ≤ s.params.dmemBytes) :
    s.hostRead width (0x10000 + x) = some (BitVec.ofNat 32 (leVal (s.DMEM.readBytes x width.bytes))) := by
  have ha' : (0x10000 + x) % width.bytes = 0 := by cases width <;> simp [Width.bytes] at * <;> omega
  simp [State.hostRead, State.inWindow, windowBase, ha', h]

theorem hostWrite_window {width : Width} {x : Nat} {v : Word} (ha : x % width.bytes = 0)
    (h : x + width.bytes ≤ s.params.dmemBytes) :
    s.hostWrite width (0x10000 + x) v = some (s.writeMem x (leBytes width.bytes v.toNat)) := by
  have ha' : (0x10000 + x) % width.bytes = 0 := by cases width <;> simp [Width.bytes] at * <;> omega
  simp [State.hostWrite, State.inWindow, windowBase, ha', h]

/-- An access that is misaligned, or outside the window and the registers. -/
theorem hostRead_misaligned {width : Width} {offset : Nat} (h : offset % width.bytes ≠ 0) :
    s.hostRead width offset = none := by
  simp [State.hostRead, h]

theorem hostWrite_misaligned {width : Width} {offset : Nat} {v : Word} (h : offset % width.bytes ≠ 0) :
    s.hostWrite width offset v = none := by
  simp [State.hostWrite, h]

theorem hostRead_outside {width : Width} {offset : Nat} (h : 0x10000 ≤ offset)
    (hd : s.params.dmemBytes < offset - 0x10000 + width.bytes) : s.hostRead width offset = none := by
  simp [State.hostRead, State.inWindow, windowBase, Nat.not_lt.2 h, Nat.not_le.2 hd]

theorem hostWrite_outside {width : Width} {offset : Nat} {v : Word} (h : 0x10000 ≤ offset)
    (hd : s.params.dmemBytes < offset - 0x10000 + width.bytes) : s.hostWrite width offset v = none := by
  simp [State.hostWrite, State.inWindow, windowBase, Nat.not_lt.2 h, Nat.not_le.2 hd]

/-- The X registers (20_memory.md R80). -/
theorem xRegAt_of_index (i : XReg) : xRegAt (0x040 + 4 * i.val) = some i := by
  revert i
  decide

/-- The offsets at which the map defines no register (20_memory.md R76). -/
theorem readReg_undefined {offset : Nat} (h : (0x020 ≤ offset ∧ offset < 0x040) ∨ 0x080 ≤ offset) :
    s.readReg offset = none := by
  have hx : xRegAt offset = none := by
    unfold xRegAt
    split
    · omega
    · rfl
  unfold State.readReg
  split <;> first | omega | simp [hx]

theorem writeReg_undefined {offset : Nat} {v : Word} (h : (0x020 ≤ offset ∧ offset < 0x040) ∨ 0x080 ≤ offset) :
    s.writeReg offset v = none := by
  have hx : xRegAt offset = none := by
    unfold xRegAt
    split
    · omega
    · rfl
  unfold State.writeReg
  split <;> first | omega | simp [hx]

end Sys2Proof.Machine
end

