-- ==== Sys2Proof/Laws/Control.lean ====
section
/-! SUPPORT. What a command, and the word in CUR, can do to the control registers: they complete and leave them, or they take one
fault record. -/

namespace Sys2Proof.Machine

-- One theorem at a time: many at once ask for more threads than a memory limit may allow.
set_option Elab.async false

variable {s t u : State}

/-- Whatever `r` answers without a fault differs from `s` in no control register, STATUS included, and in none of the model's own
fields. -/
def KeepsControl (s : State) (r : Except Cause State) : Prop :=
  ∀ u, r = .ok u → SameControl s u ∧ u.STATUS = s.STATUS

theorem keepsControl_ok (h : SameControl s u ∧ u.STATUS = s.STATUS) : KeepsControl s (.ok u) := by
  intro v hv
  cases hv
  exact h

theorem keepsControl_bind {α : Type} {x : Except Cause α} {g : α → Except Cause State} (h : ∀ a, KeepsControl s (g a)) :
    KeepsControl s (x >>= g) := by
  intro v hv
  obtain ⟨a, -, ha⟩ := bind_ok.1 hv
  exact h a v ha

/-- The last action of a meaning: every write of a command keeps the control registers. -/
theorem keepsControl_pure (h : SameControl s u ∧ u.STATUS = s.STATUS) : KeepsControl s (pure u) := keepsControl_ok h

/-- Every meaning is a computation that keeps the control registers, ended by the one operation that ends commands. -/
theorem exec_keepsControl (i : Instr) (s : State) : ∃ r, exec i s = s.finish r ∧ KeepsControl s r := by
  cases i <;> first | refine ⟨.ok _, rfl, ?_⟩ | refine ⟨_, rfl, ?_⟩
  all_goals
    try simp only [State.fieldBinary, State.fieldUnary, State.scalarLoad, State.scalarBinary, State.salsaComposite,
      State.streamOut, State.streamXor]
    repeat' with_reducible refine keepsControl_bind fun _ => ?_
    first
      | with_reducible refine keepsControl_pure ?_
      | with_reducible refine keepsControl_ok ?_
    refine ⟨⟨?_, ?_, ?_, ?_, ?_, ?_, ?_, ?_⟩, ?_⟩ <;> simp

/-- What a command can do to the control registers, said once: it completes and keeps them, or it takes one fault record. -/
theorem exec_next {i : Instr} (h : exec i s = .next t) :
    (SameControl s t ∧ t.STATUS = { busy := false, done := true, err := s.STATUS.err }) ∨ ∃ c, t = s.takeFault c := by
  obtain ⟨r, hr, hk⟩ := exec_keepsControl i s
  rw [hr, State.finish_next] at h
  rcases h with ⟨u, rfl, rfl⟩ | ⟨c, -, rfl⟩
  · obtain ⟨⟨h1, h2, h3, h4, h5, h6, h7, h8⟩, hs⟩ := hk u rfl
    exact .inl ⟨⟨h1, h2, h3, h4, h5, h6, h7, h8⟩, by simp [hs]⟩
  · exact .inr ⟨c, rfl⟩

/-- The same of the word in CUR. -/
theorem runCurrent_control (h : runCurrent s = .next t) :
    (SameControl s t ∧ t.STATUS = { busy := false, done := true, err := s.STATUS.err }) ∨ ∃ c, t = s.takeFault c := by
  cases hd : decode s.CUR with
  | error e =>
    rw [runCurrent_error hd] at h
    cases h
    exact .inr ⟨_, rfl⟩
  | ok i => exact exec_next (runCurrent_ok hd ▸ h)

/-- A fault record, in the terms of statements. -/
theorem takeFault_eq (s : State) (c : Cause) : s.takeFault c = s.faulted c.code := rfl

/-- The codes of 60_exceptions.md R341 run from 1 to 6. -/
theorem code_range (c : Cause) : 1 ≤ c.code.toNat ∧ c.code.toNat ≤ 6 := by cases c <;> decide

end Sys2Proof.Machine
end

