-- ==== Sys2Proof/Laws/Field.lean ====
section
/-! SUPPORT. The field GF(p): the power function, the primality of p, and the operations of 41_fe25519.md read in `ZMod p`. -/

namespace Sys2Proof.Machine

-- One theorem at a time: many at once ask for more threads than a memory limit may allow.
set_option Elab.async false

/-! ## Powers -/

theorem powStep_eq (m b n e : Nat) (h : e < 2 ^ n) : powStep m b n e = b ^ e % m := by
  induction n generalizing e with
  | zero =>
    have : e = 0 := by simpa using h
    simp [powStep, this]
  | succ n ih =>
    rw [powStep]
    split
    · simp_all
    · have hlt : e / 2 < 2 ^ n := by rw [pow_succ] at h; omega
      simp only [ih _ hlt]
      split
      · have he : e = e / 2 + e / 2 + 1 := by omega
        conv_rhs => rw [he, pow_succ, pow_add]
        simp [Nat.mul_mod]
      · have he : e = e / 2 + e / 2 := by omega
        conv_rhs => rw [he, pow_add]
        simp [Nat.mul_mod]

/-- The power by squaring is the power (00_scope.md R14). -/
theorem powMod_eq (m b e : Nat) : powMod m b e = b ^ e % m := by
  rw [powMod]
  exact powStep_eq m b _ e Nat.lt_log2_self

/-- The power in `ZMod m`. -/
theorem powMod_cast (m b e : Nat) : ((powMod m b e : Nat) : ZMod m) = (b : ZMod m) ^ e := by
  rw [powMod_eq, ZMod.natCast_mod, Nat.cast_pow]

/-! ## The primality of p -/

/-- Lucas: `n` is prime if some base has order `n - 1`, the primes of which are among `qs`. -/
theorem prime_of_powers {n : Nat} (hn : 2 < n) (b : Nat) (qs : List Nat) (hq : ∀ q ∈ qs, q.Prime) (hprod : qs.prod = n - 1)
    (h1 : powMod n b (n - 1) = 1) (h2 : ∀ q ∈ qs, powMod n b ((n - 1) / q) ≠ 1) : n.Prime := by
  have : Fact (1 < n) := ⟨by omega⟩
  refine lucas_primality n (b : ZMod n) ?_ ?_
  · rw [← powMod_cast, h1, Nat.cast_one]
  · intro q hqp hdvd hone
    rw [← hprod] at hdvd
    obtain ⟨r, hr, hqr⟩ := (Nat.Prime.prime hqp).dvd_prod_iff.mp hdvd
    obtain rfl := (Nat.prime_dvd_prime_iff_eq hqp (hq r hr)).mp hqr
    refine h2 q hr ?_
    have hlt : powMod n b ((n - 1) / q) < n := by
      rw [powMod_eq]
      exact Nat.mod_lt _ (by omega)
    rw [← powMod_cast] at hone
    have := congrArg ZMod.val hone
    rwa [ZMod.val_natCast, Nat.mod_eq_of_lt hlt, ZMod.val_one] at this

theorem prime_1923133 : Nat.Prime 1923133 := by norm_num

theorem prime_8574133 : Nat.Prime 8574133 := by norm_num

theorem prime_2773320623 : Nat.Prime 2773320623 :=
  prime_of_powers (by norm_num) 5 [569003, 2437, 2]
    (by simp only [List.forall_mem_cons]; exact ⟨by norm_num, by norm_num, by norm_num, by simp⟩)
    (by norm_num) (by decide +kernel) (by decide +kernel)

theorem prime_72106336199 : Nat.Prime 72106336199 :=
  prime_of_powers (by norm_num) 7 [2773320623, 13, 2]
    (by simp only [List.forall_mem_cons]; exact ⟨prime_2773320623, by norm_num, by norm_num, by simp⟩)
    (by norm_num) (by decide +kernel) (by decide +kernel)

theorem prime_1919519569386763 : Nat.Prime 1919519569386763 :=
  prime_of_powers (by norm_num) 2 [8574133, 127, 47, 47, 19, 7, 3, 2]
    (by simp only [List.forall_mem_cons]
        exact ⟨prime_8574133, by norm_num, by norm_num, by norm_num, by norm_num, by norm_num, by norm_num, by norm_num,
          by simp⟩)
    (by norm_num) (by decide +kernel) (by decide +kernel)

theorem prime_31757755568855353 : Nat.Prime 31757755568855353 :=
  prime_of_powers (by norm_num) 10 [430751, 4153, 223, 107, 31, 3, 2, 2, 2]
    (by simp only [List.forall_mem_cons]
        exact ⟨by norm_num, by norm_num, by norm_num, by norm_num, by norm_num, by norm_num, by norm_num, by norm_num,
          by norm_num, by simp⟩)
    (by norm_num) (by decide +kernel) (by decide +kernel)

theorem prime_75445702479781427272750846543864801 : Nat.Prime 75445702479781427272750846543864801 :=
  prime_of_powers (by norm_num) 7 [72106336199, 1919519569386763, 75707, 5, 5, 3, 3, 2, 2, 2, 2, 2]
    (by simp only [List.forall_mem_cons]
        exact ⟨prime_72106336199, prime_1919519569386763, by norm_num, by norm_num, by norm_num, by norm_num,
          by norm_num, by norm_num, by norm_num, by norm_num, by norm_num, by norm_num, by simp⟩)
    (by norm_num) (by decide +kernel) (by decide +kernel)

/-- The large prime factor of `p - 1`. -/
def pFactor : Nat := 74058212732561358302231226437062788676166966415465897661863160754340907

theorem prime_pFactor : Nat.Prime pFactor :=
  prime_of_powers (by decide +kernel) 2
    [57467, 132049, 1923133, 31757755568855353, 75445702479781427272750846543864801, 353, 3, 2]
    (by simp only [List.forall_mem_cons]
        exact ⟨by norm_num, by norm_num, prime_1923133, prime_31757755568855353,
          prime_75445702479781427272750846543864801, by norm_num, by norm_num, by norm_num, by simp⟩)
    (by decide +kernel) (by decide +kernel) (by decide +kernel)

/-- `p = 2^255 - 19` is prime (00_scope.md R14: GF(p) is a field). -/
theorem p_prime : Nat.Prime p :=
  prime_of_powers (by decide +kernel) 2 [pFactor, 65147, 3, 2, 2]
    (by simp only [List.forall_mem_cons]
        exact ⟨prime_pFactor, by norm_num, by norm_num, by norm_num, by norm_num, by simp⟩)
    (by decide +kernel) (by decide +kernel) (by decide +kernel)

theorem p_pos : 0 < p := p_prime.pos

theorem p_lt : p < 2 ^ 255 := by decide +kernel

/-! ## The operations -/

theorem fAdd_lt (a b : Nat) : fAdd a b < p := Nat.mod_lt _ p_pos

theorem fSub_lt (a b : Nat) : fSub a b < p := Nat.mod_lt _ p_pos

theorem fMul_lt (a b : Nat) : fMul a b < p := Nat.mod_lt _ p_pos

theorem fInv_lt (a : Nat) : fInv a < p := by
  rw [fInv, powMod_eq]
  exact Nat.mod_lt _ p_pos

theorem fPow2523_lt (a : Nat) : fPow2523 a < p := by
  rw [fPow2523, powMod_eq]
  exact Nat.mod_lt _ p_pos

theorem fDecode_lt (v : Nat) : fDecode v < p := Nat.mod_lt _ p_pos

@[simp] theorem fAdd_cast (a b : Nat) : ((fAdd a b : Nat) : ZMod p) = a + b := by simp [fAdd]

@[simp] theorem fMul_cast (a b : Nat) : ((fMul a b : Nat) : ZMod p) = a * b := by simp [fMul]

@[simp] theorem fSub_cast (a b : Nat) : ((fSub a b : Nat) : ZMod p) = a - b := by
  have h : b % p ≤ p := (Nat.mod_lt _ p_pos).le
  rw [fSub, ZMod.natCast_mod, Nat.cast_add, Nat.cast_sub h, ZMod.natCast_self, ZMod.natCast_mod]
  ring

/-- The inverse in the field, 0 for 0 (41_fe25519.md R152). -/
@[simp] theorem fInv_cast (a : Nat) : ((fInv a : Nat) : ZMod p) = (a : ZMod p)⁻¹ := by
  have : Fact p.Prime := ⟨p_prime⟩
  rw [fInv, powMod_cast]
  by_cases h : (a : ZMod p) = 0
  · have : p - 2 ≠ 0 := by decide +kernel
    simp [h, this]
  · apply eq_inv_of_mul_eq_one_left
    rw [← pow_succ]
    have : p - 2 + 1 = p - 1 := by decide +kernel
    rw [this]
    exact ZMod.pow_card_sub_one_eq_one h

@[simp] theorem fPow2523_cast (a : Nat) : ((fPow2523 a : Nat) : ZMod p) = (a : ZMod p) ^ ((p - 5) / 8) := powMod_cast _ _ _

/-- The difference as an integer residue (41_fe25519.md R145). -/
theorem fSub_int (a b : Nat) : ((fSub a b : Nat) : Int) = ((a : Int) - b) % p := by
  have h : b % p ≤ p := (Nat.mod_lt _ p_pos).le
  have e : ((b % p : Nat) : Int) = (b : Int) % (p : Int) := by simp
  rw [fSub, Int.natCast_mod, Nat.cast_add, Nat.cast_sub h, e]
  rw [show (a : Int) + ((p : Int) - (b : Int) % p) = (a : Int) - (b : Int) % p + p by ring, Int.add_emod_right,
    Int.sub_emod, Int.emod_emod_of_dvd _ (dvd_refl _), ← Int.sub_emod]

/-- Residues below `p` are equal when they are equal in the field. -/
theorem eq_of_cast_eq {a b : Nat} (ha : a < p) (hb : b < p) (h : (a : ZMod p) = b) : a = b := by
  have := (ZMod.natCast_eq_natCast_iff a b p).mp h
  rwa [Nat.ModEq, Nat.mod_eq_of_lt ha, Nat.mod_eq_of_lt hb] at this

theorem cast_eq_iff {a b : Nat} (ha : a < p) (hb : b < p) : (a : ZMod p) = b ↔ a = b :=
  ⟨eq_of_cast_eq ha hb, fun h => by rw [h]⟩

end Sys2Proof.Machine
end

