-- ==== Sys2Proof/Laws/Outputs.lean ====
section
/-! SUPPORT. How many bytes each command's output has (20_memory.md R77), and which bytes the stream loop leaves alone. -/

namespace Sys2Proof.Machine

-- One theorem at a time: many at once ask for more threads than a memory limit may allow.
set_option Elab.async false

@[simp] theorem window3From_length (s n i c : Nat) : (window3From s n i c).length = n + 1 := by
  induction n generalizing i c with
  | zero => rfl
  | succ n ih => unfold window3From; split <;> simp [ih]

@[simp] theorem window3_length (s : Nat) : (window3 s).length = 85 := by simp [window3]

@[simp] theorem interleave2_length (s1 s2 : Nat) : (interleave2 s1 s2).length = 127 := by simp [interleave2]

theorem flatMap_length {α : Type} (l : List α) (g : α → List Byte) (n : Nat) (h : ∀ a ∈ l, (g a).length = n) :
    (l.flatMap g).length = n * l.length := by
  induction l with
  | nil => simp
  | cons a l ih =>
    rw [List.flatMap_cons, List.length_append, h a (by simp), ih (fun b hb => h b (by simp [hb])), List.length_cons]
    ring

@[simp] theorem wordsBytes_length (w : Vector Word 16) : (wordsBytes w).length = 64 := by
  rw [wordsBytes, flatMap_length _ _ 4 (fun _ _ => wordBytes_length _), Vector.length_toList]

@[simp] theorem salsaCore_length (input k c : List Byte) : (salsaCore input k c).length = 64 := wordsBytes_length _

@[simp] theorem hsalsaCore_length (input k c : List Byte) : (hsalsaCore input k c).length = 32 := by
  rw [hsalsaCore, flatMap_length _ _ 4 (fun _ _ => wordBytes_length _)]
  rfl

@[simp] theorem keystreamBlocks_length (n8 k : List Byte) (n : Nat) : (keystreamBlocks n8 k n).length = 64 * n := by
  rw [keystreamBlocks, flatMap_length _ _ 64 (fun _ _ => salsaCore_length _ _ _), List.length_range]

@[simp] theorem keystream_length (n8 k : List Byte) (n : Nat) : (keystream n8 k n).length = n := by
  rw [keystream, List.length_take, keystreamBlocks_length]
  omega

@[simp] theorem xkeystream_length (n24 k : List Byte) (n : Nat) : (xkeystream n24 k n).length = n :=
  keystream_length _ _ _

@[simp] theorem tagBytes_length (h : Nat) (s : BitVec 128) : (tagBytes h s).length = 16 := leBytes_length _ _

@[simp] theorem poly1305_length (m key : List Byte) : (poly1305 m key).length = 16 := tagBytes_length _ _

/-- The stream loop writes no byte outside its output (47_stream.md R280). -/
theorem read_streamLoop_other (m : Memory) (c a pad : Nat) (ks : List Byte) (x : Nat)
    (h : ¬(c ≤ x ∧ x < c + ks.length)) : (streamLoop m c a pad ks).read x = m.read x := by
  rw [streamLoop, read_xorLoop_other, Memory.read_writeBytes_other]
  · rw [List.length_take]
    omega
  · rw [List.length_drop]
    omega

end Sys2Proof.Machine
end

