-- ==== Sys2Proof/Laws/PerInstr.lean ====
section
/-! SUPPORT. What holds of every instruction as syntax, one lemma per constructor: the family `Encoding`. -/

namespace Sys2Proof

-- One theorem at a time: many at once ask for more threads than a memory limit may allow.
set_option Elab.async false

/-- Seven numbers that fit their fields are read back from their word (30_encoding.md R101). -/
theorem fieldsOf_number (g : Fields) (h : g.fits = true) : fieldsOf (BitVec.ofNat 32 g.number) = g := by
  obtain ⟨op, d, a, b, c, e, f⟩ := g
  simp only [Fields.fits, List.all_cons, List.all_nil, Bool.and_true, Bool.and_eq_true, decide_eq_true_eq] at h
  obtain ⟨h0, h1, h2, h3, h4, h5, h6⟩ := h
  simp only [fieldsOf, Fields.number, BitVec.toNat_ofNat, Fields.mk.injEq]
  omega

namespace Laws.Encoding

/-- The seven fields of an instruction's word are the ones the encoder put there: no operand is dropped, shifted or cut
(30_encoding.md R101, R103). -/
def Statement (i : Instr) : Prop := fieldsOf (encode i) = fieldsOfInstr i

theorem nop : Statement .nop :=
  fieldsOf_number _ (by decide)

theorem wipe : Statement .wipe :=
  fieldsOf_number _ (by decide)

theorem feUnpack (d : FReg) (a : XReg) : Statement (.feUnpack d a) :=
  fieldsOf_number _ (by simp [fieldsOfInstr, Fields.fits])

theorem fePack (d : XReg) (a : FReg) : Statement (.fePack d a) :=
  fieldsOf_number _ (by simp [fieldsOfInstr, Fields.fits])

theorem feAdd (d : FReg) (a : FReg) (b : FReg) : Statement (.feAdd d a b) :=
  fieldsOf_number _ (by simp [fieldsOfInstr, Fields.fits])

theorem feSub (d : FReg) (a : FReg) (b : FReg) : Statement (.feSub d a b) :=
  fieldsOf_number _ (by simp [fieldsOfInstr, Fields.fits])

theorem feMul (d : FReg) (a : FReg) (b : FReg) : Statement (.feMul d a b) :=
  fieldsOf_number _ (by simp [fieldsOfInstr, Fields.fits])

theorem feSq (d : FReg) (a : FReg) : Statement (.feSq d a) :=
  fieldsOf_number _ (by simp [fieldsOfInstr, Fields.fits])

theorem feCmov (d : FReg) (a : FReg) (b : XReg) : Statement (.feCmov d a b) :=
  fieldsOf_number _ (by simp [fieldsOfInstr, Fields.fits])

theorem feIseq (d : XReg) (a : FReg) (b : FReg) : Statement (.feIseq d a b) :=
  fieldsOf_number _ (by simp [fieldsOfInstr, Fields.fits])

theorem feParity (d : XReg) (a : FReg) : Statement (.feParity d a) :=
  fieldsOf_number _ (by simp [fieldsOfInstr, Fields.fits])

theorem feInv (d : FReg) (a : FReg) : Statement (.feInv d a) :=
  fieldsOf_number _ (by simp [fieldsOfInstr, Fields.fits])

theorem fePow2523 (d : FReg) (a : FReg) : Statement (.fePow2523 d a) :=
  fieldsOf_number _ (by simp [fieldsOfInstr, Fields.fits])

theorem scFrom32 (d : SReg) (a : XReg) : Statement (.scFrom32 d a) :=
  fieldsOf_number _ (by simp [fieldsOfInstr, Fields.fits])

theorem scFrom64 (d : SReg) (a : XReg) : Statement (.scFrom64 d a) :=
  fieldsOf_number _ (by simp [fieldsOfInstr, Fields.fits])

theorem scTo32 (d : XReg) (a : SReg) : Statement (.scTo32 d a) :=
  fieldsOf_number _ (by simp [fieldsOfInstr, Fields.fits])

theorem scAdd (d : SReg) (a : SReg) (b : SReg) : Statement (.scAdd d a b) :=
  fieldsOf_number _ (by simp [fieldsOfInstr, Fields.fits])

theorem scMul (d : SReg) (a : SReg) (b : SReg) : Statement (.scMul d a b) :=
  fieldsOf_number _ (by simp [fieldsOfInstr, Fields.fits])

theorem scWindow3 (d : XReg) (a : SReg) : Statement (.scWindow3 d a) :=
  fieldsOf_number _ (by simp [fieldsOfInstr, Fields.fits])

theorem scIntlv2 (d : XReg) (a : SReg) (b : SReg) : Statement (.scIntlv2 d a b) :=
  fieldsOf_number _ (by simp [fieldsOfInstr, Fields.fits])

theorem geUnpackneg (d : PReg) (a : XReg) (b : XReg) : Statement (.geUnpackneg d a b) :=
  fieldsOf_number _ (by simp [fieldsOfInstr, Fields.fits])

theorem gePack (d : XReg) (a : PReg) : Statement (.gePack d a) :=
  fieldsOf_number _ (by simp [fieldsOfInstr, Fields.fits])

theorem geAdd (d : PReg) (a : PReg) (b : PReg) : Statement (.geAdd d a b) :=
  fieldsOf_number _ (by simp [fieldsOfInstr, Fields.fits])

theorem geDbl (d : PReg) (a : PReg) : Statement (.geDbl d a) :=
  fieldsOf_number _ (by simp [fieldsOfInstr, Fields.fits])

theorem geMadd (d : PReg) (a : PReg) (b : XReg) (c : XReg) : Statement (.geMadd d a b c) :=
  fieldsOf_number _ (by simp [fieldsOfInstr, Fields.fits])

theorem geSmulbase (d : PReg) (a : SReg) : Statement (.geSmulbase d a) :=
  fieldsOf_number _ (by simp [fieldsOfInstr, Fields.fits])

theorem geDsmul (d : PReg) (a : PReg) (b : SReg) (c : PReg) (e : SReg) : Statement (.geDsmul d a b c e) :=
  fieldsOf_number _ (by simp [fieldsOfInstr, Fields.fits])

theorem xLadder (d : XReg) (a : XReg) (b : XReg) : Statement (.xLadder d a b) :=
  fieldsOf_number _ (by simp [fieldsOfInstr, Fields.fits])

theorem xBase (d : XReg) (a : XReg) : Statement (.xBase d a) :=
  fieldsOf_number _ (by simp [fieldsOfInstr, Fields.fits])

theorem saLdw (a : XReg) (b : XReg) (c : XReg) : Statement (.saLdw a b c) :=
  fieldsOf_number _ (by simp [fieldsOfInstr, Fields.fits])

theorem saStw (d : XReg) : Statement (.saStw d) :=
  fieldsOf_number _ (by simp [fieldsOfInstr, Fields.fits])

theorem saQr (i0 : WIdx) (i1 : WIdx) (i2 : WIdx) (i3 : WIdx) : Statement (.saQr i0 i1 i2 i3) :=
  fieldsOf_number _ (by simp [fieldsOfInstr, Fields.fits])

theorem saDround : Statement .saDround :=
  fieldsOf_number _ (by decide)

theorem saAddw (a : XReg) : Statement (.saAddw a) :=
  fieldsOf_number _ (by simp [fieldsOfInstr, Fields.fits])

theorem saCore (d : XReg) (a : XReg) (b : XReg) (c : XReg) : Statement (.saCore d a b c) :=
  fieldsOf_number _ (by simp [fieldsOfInstr, Fields.fits])

theorem saHcore (d : XReg) (a : XReg) (b : XReg) (c : XReg) : Statement (.saHcore d a b c) :=
  fieldsOf_number _ (by simp [fieldsOfInstr, Fields.fits])

theorem plInit (a : XReg) : Statement (.plInit a) :=
  fieldsOf_number _ (by simp [fieldsOfInstr, Fields.fits])

theorem plBlock (a : XReg) (b : XReg) : Statement (.plBlock a b) :=
  fieldsOf_number _ (by simp [fieldsOfInstr, Fields.fits])

theorem plFinal (d : XReg) : Statement (.plFinal d) :=
  fieldsOf_number _ (by simp [fieldsOfInstr, Fields.fits])

theorem plAuth (d : XReg) (a : XReg) (b : XReg) (c : XReg) : Statement (.plAuth d a b c) :=
  fieldsOf_number _ (by simp [fieldsOfInstr, Fields.fits])

theorem plVerify (d : XReg) (a : XReg) (b : XReg) (c : XReg) (e : XReg) : Statement (.plVerify d a b c e) :=
  fieldsOf_number _ (by simp [fieldsOfInstr, Fields.fits])

theorem s20Stream (d : XReg) (a : XReg) (b : XReg) (c : XReg) : Statement (.s20Stream d a b c) :=
  fieldsOf_number _ (by simp [fieldsOfInstr, Fields.fits])

theorem s20Xor (d : XReg) (a : XReg) (b : XReg) (c : XReg) (e : XReg) (f : XReg) : Statement (.s20Xor d a b c e f) :=
  fieldsOf_number _ (by simp [fieldsOfInstr, Fields.fits])

theorem xsStream (d : XReg) (a : XReg) (b : XReg) (c : XReg) : Statement (.xsStream d a b c) :=
  fieldsOf_number _ (by simp [fieldsOfInstr, Fields.fits])

theorem xsXor (d : XReg) (a : XReg) (b : XReg) (c : XReg) (e : XReg) (f : XReg) : Statement (.xsXor d a b c e f) :=
  fieldsOf_number _ (by simp [fieldsOfInstr, Fields.fits])

end Laws.Encoding

end Sys2Proof
end

