-- ==== Sys2Proof/Tests/Slice0.lean ====
section
/-! SUPPORT. The model's own tests: smoke tests of the well-formedness checks, the words of the encoding, one step of every
command on values that the spec states (95_test_vectors.md and the examples of the family files), and for every obligation
with hypotheses a state and operands that meet them. -/

namespace Sys2Proof.Tests

open Sys2Proof Sys2Proof.Machine

-- One kernel evaluation at a time: many at once ask for more threads than a memory limit may allow.
set_option Elab.async false

/-! ## Helpers -/

/-- The state an outcome goes on to. -/
def after : Host.Outcome State Fault Refusal → Option State
  | .next t => some t
  | .fault _ => none
  | .refused _ => none

/-- The `n` bytes of a number written lowest address first, as the spec writes byte strings. -/
def bytes (n v : Nat) : List Byte := (leBytes n v).reverse

/-- The bytes 01 02 ... 20 (95_test_vectors.md, `a32`). -/
def a32 : List Byte := (List.range 32).map fun i => BitVec.ofNat 8 (i + 1)

/-- The bytes of RFC 7539's key (46_poly1305.md R257). -/
def polyKey : List Byte := bytes 32 0x85d6be7857556d337f4452fe42d506a80103808afb0db2fd4abff6af4149f51b

/-- The 34-byte message of 46_poly1305.md R258. -/
def polyMessage : List Byte :=
  bytes 34 0x43727970746f6772617068696320466f72756d2052657365617263682047726f7570

/-- The key of 47_stream.md R278. -/
def naclKey : List Byte := bytes 32 0x1b27556473e985d462cd51197a9a46c76009549eac6474f206c4ee0844f68389

/-- The nonce of 47_stream.md R278. -/
def naclNonce : List Byte := bytes 24 0x69696ee955b62b73cd62bda875fc73d68219e0036b7a0b37

/-- A wiped block of the default instance. -/
def blank : State := { State.reset with DMEM := Memory.wiped }

/-- A block with a byte string at address 0, and what else a command needs at 64 and 128. -/
def holdingBytes (at0 at64 at128 : List Byte) : State :=
  (((blank.writeMem 0 at0).writeMem 64 at64).writeMem 128 at128).writeX 1 64 |>.writeX 2 128 |>.writeX 3 256

/-- A block with two field registers. -/
def fields (x y : Nat) : State := (blank.writeF 1 x).writeF 2 y

/-- A block with two scalars. -/
def scalars (x y : Nat) : State := (blank.writeS 1 x).writeS 2 y

/-- A block with two points. -/
def pointsOf (q r : Point) : State := (blank.writeP 1 q).writeP 2 r

/-- `n` bytes of memory after a command. -/
def memAfter (o : Host.Outcome State Fault Refusal) (a n : Nat) : Option (List Byte) :=
  (after o).map fun t => t.DMEM.readBytes a n

/-- `F[3]` after a command, as FE.PACK would write it. -/
def fieldAfter (o : Host.Outcome State Fault Refusal) : Option (Bool × List Byte) :=
  (after o).map fun t => (t.F[3].valid, leBytes 32 t.F[3].value)

/-- `S[3]` after a command, as SC.TO32 would write it. -/
def scalarAfter (o : Host.Outcome State Fault Refusal) : Option (Bool × List Byte) :=
  (after o).map fun t => (t.S[3].valid, leBytes 32 t.S[3].value)

/-- `P[3]` after a command, as GE.PACK would write it. -/
def pointAfter (o : Host.Outcome State Fault Refusal) : Option (Bool × List Byte) :=
  (after o).map fun t => (t.P[3].valid, leBytes 32 t.P[3].value.packed)

/-- The cause code after a command. -/
def causeAfter (o : Host.Outcome State Fault Refusal) : Option (Bool × Word) :=
  (after o).map fun t => (t.STATUS.err, t.CAUSE)

/-- `DONE` and an X register after a command. -/
def xAfter (o : Host.Outcome State Fault Refusal) (i : XReg) : Option (Bool × Word) :=
  (after o).map fun t => (t.STATUS.done, t.X[i])

/-! ## Well-formedness -/

/-- A number that does not fit its field (30_encoding.md R101). -/
theorem test_field_too_wide : Fields.fits ⟨0x14, 16, 0, 0, 0, 0, 0⟩ = false := by decide

/-- An opcode above one byte (30_encoding.md R101). -/
theorem test_opcode_too_wide : Fields.fits ⟨0x114, 0, 0, 0, 0, 0, 0⟩ = false := by decide

/-- 95_test_vectors.md V-E5: 0x17 lies between FE.CMOV and FE.ISEQ. -/
theorem test_opcode_unassigned : Fields.assigned ⟨0x17, 0, 0, 0, 0, 0, 0⟩ = false := by decide

/-- 95_test_vectors.md V-E8: FE.MUL with f = 1. -/
theorem test_reserved_not_zero : Fields.reservedZero ⟨0x14, 3, 1, 2, 0, 0, 1⟩ = false := by decide

/-- The three ill-formed terms are refused by the check as a whole, and the well-formed one is not. -/
theorem test_wellFormed_fields :
    [Fields.wellFormed ⟨0x14, 16, 0, 0, 0, 0, 0⟩, Fields.wellFormed ⟨0x17, 0, 0, 0, 0, 0, 0⟩,
     Fields.wellFormed ⟨0x14, 3, 1, 2, 0, 0, 1⟩, Fields.wellFormed ⟨0x14, 3, 1, 2, 0, 0, 0⟩] =
      [false, false, false, true] := by decide

/-- Every 4-bit index names a register (10_state.md R23). -/
theorem test_wellFormed_instr : (Instr.s20Xor 15 0 1 2 3 15).wellFormed = true := by decide

/-! ## Decoding: every word is written out from the field columns of 30_encoding.md R103, with the operands 1, 2, 3, 4, 5, 6
in the fields d, a, b, c, e, f that the row uses. -/

theorem test_decode_system :
    [
      0x00000000, 0x01000000].map (fun w => (decode w).toOption) =
      [
        some (.nop), some (.wipe)] := by
  decide

theorem test_decode_field :
    [
      0x10120000, 0x11120000, 0x12123000, 0x13123000, 0x14123000, 0x15120000, 0x16123000, 0x18123000, 0x19120000,
      0x20120000, 0x21120000].map (fun w => (decode w).toOption) =
      [
        some (.feUnpack 1 2), some (.fePack 1 2), some (.feAdd 1 2 3), some (.feSub 1 2 3), some (.feMul 1 2 3),
        some (.feSq 1 2), some (.feCmov 1 2 3), some (.feIseq 1 2 3), some (.feParity 1 2), some (.feInv 1 2),
        some (.fePow2523 1 2)] := by
  decide

theorem test_decode_scalar :
    [
      0x30120000, 0x31120000, 0x32120000, 0x33123000, 0x34123000, 0x35120000, 0x36123000].map (fun w => (decode w).toOption) =
      [
        some (.scFrom32 1 2), some (.scFrom64 1 2), some (.scTo32 1 2), some (.scAdd 1 2 3), some (.scMul 1 2 3),
        some (.scWindow3 1 2), some (.scIntlv2 1 2 3)] := by
  decide

theorem test_decode_group :
    [
      0x40123000, 0x41120000, 0x42123000, 0x43120000, 0x44123400, 0x45120000, 0x46123450].map (fun w => (decode w).toOption) =
      [
        some (.geUnpackneg 1 2 3), some (.gePack 1 2), some (.geAdd 1 2 3), some (.geDbl 1 2),
        some (.geMadd 1 2 3 4), some (.geSmulbase 1 2), some (.geDsmul 1 2 3 4 5)] := by
  decide

theorem test_decode_ladder :
    [
      0x50123000, 0x51120000].map (fun w => (decode w).toOption) =
      [
        some (.xLadder 1 2 3), some (.xBase 1 2)] := by
  decide

theorem test_decode_salsa :
    [
      0x60023400, 0x61100000, 0x62123400, 0x63000000, 0x64020000, 0x65123400, 0x66123400].map (fun w => (decode w).toOption) =
      [
        some (.saLdw 2 3 4), some (.saStw 1), some (.saQr 1 2 3 4), some (.saDround), some (.saAddw 2),
        some (.saCore 1 2 3 4), some (.saHcore 1 2 3 4)] := by
  decide

theorem test_decode_poly :
    [
      0x70020000, 0x71023000, 0x72100000, 0x73123400, 0x74123450].map (fun w => (decode w).toOption) =
      [
        some (.plInit 2), some (.plBlock 2 3), some (.plFinal 1), some (.plAuth 1 2 3 4), some (.plVerify 1 2 3 4 5)] := by
  decide

theorem test_decode_stream :
    [
      0x80123400, 0x81123456, 0x82123400, 0x83123456].map (fun w => (decode w).toOption) =
      [
        some (.s20Stream 1 2 3 4), some (.s20Xor 1 2 3 4 5 6), some (.xsStream 1 2 3 4), some (.xsXor 1 2 3 4 5 6)] := by
  decide

/-- 95_test_vectors.md V-E3 to V-E6, V-E8, V-E9, V-E16: the opcode is checked before the reserved fields. -/
theorem test_decode_rejects :
    [0x00000001, 0x14312001, 0x15120300, 0x63100000].map (fun w => decode w) =
        List.replicate 4 (.error .reservedField) ∧
      [0x02000000, 0x17000000, 0x84000000, 0xFFFFFFFF].map (fun w => decode w) =
        List.replicate 4 (.error .illegalOpcode) := by decide

/-- The encoder writes the words of 30_encoding.md R109. -/
theorem test_encode :
    [Instr.feMul 3 1 2, .geDsmul 3 1 1 2 2, .saLdw 1 2 3, .plVerify 9 0 1 2 3, .xsXor 0 1 2 3 4 5].map encode =
      [0x14312000, 0x46311220, 0x60012300, 0x74901230, 0x83012345] := by decide

/-- A word of more than 32 bits is no command (30_encoding.md R100). -/
theorem test_decodeTableWord :
    decodeTableWord 32 0x14312000 = some (.feMul 3 1 2) ∧ decodeTableWord 40 0x114312000 = none := by decide

/-- The word that `withFetchWord` places is the one the next step runs: NOP sets DONE (40_system.md R131). -/
theorem test_withFetchWord :
    (after (step (State.reset.withFetchWord 32 0x00000000))).map (fun t => (t.STATUS, t.CUR)) =
      some ({ busy := false, done := true, err := false }, 0) := by decide +kernel

/-- 95_test_vectors.md V-E4 and V-E9 as steps: the causes 1 and 2, with the word in ERRCMD. -/
theorem test_step_rejects :
    [0x02000000, 0x15120300].map
        (fun w => (after (step (State.reset.withFetchWord 32 w))).map (fun t => (t.CAUSE, t.ERRCMD))) =
      [some (1, 0x02000000), some (2, 0x15120300)] := by decide +kernel

/-! ## System commands -/

/-- 95_test_vectors.md V-Y1: CTRL survives WIPE. -/
theorem test_wipe :
    (after (exec .wipe
        { (((State.reset.writeX 5 0x1234).writeF 1 7).writePoly 1 2 3).writeMem 0 (bytes 4 0xdeadbeef) with
          CTRL := { ieDone := true, ieErr := true } })).map
        (fun t => (t.X[5], t.F[1].valid, t.PV, t.DMEM.readBytes 0 4, t.CTRL.word)) =
      some (0, false, false, [0, 0, 0, 0], 3) := by decide +kernel

/-! ## Field commands -/

/-- 95_test_vectors.md V-F1: bit 255 is dropped, then 2^255 - 1 is reduced to 18. -/
theorem test_feUnpack :
    fieldAfter (exec (.feUnpack 3 0) (holdingBytes (List.replicate 32 0xff) [] [])) =
      some (true, leBytes 32 18) := by decide +kernel

/-- 95_test_vectors.md V-F5: p + 1 + 2^255. -/
theorem test_feUnpack_alias :
    fieldAfter (exec (.feUnpack 3 0) (holdingBytes (0xee :: List.replicate 31 0xff) [] [])) =
      some (true, leBytes 32 1) := by decide +kernel

/-- 95_test_vectors.md V-F3: p - 1 packs to ec ff ... 7f. -/
theorem test_fePack :
    memAfter (exec (.fePack 0 1) (fields (p - 1) 0)) 0 33 =
      some (0xec :: List.replicate 30 0xff ++ [0x7f, 0x00]) := by decide +kernel

/-- 95_test_vectors.md V-F6. -/
theorem test_feAdd :
    fieldAfter (exec (.feAdd 3 1 2) (fields (leVal a32) 18)) =
      some (true, bytes 32 0x1302030405060708090a0b0c0d0e0f101112131415161718191a1b1c1d1e1f20) := by decide +kernel

/-- 95_test_vectors.md V-F11. -/
theorem test_feAdd_wraps :
    fieldAfter (exec (.feAdd 3 1 2) (fields (p - 1) 1)) =
      some (true, bytes 32 0x0000000000000000000000000000000000000000000000000000000000000000) := by decide +kernel

/-- 95_test_vectors.md V-F7. -/
theorem test_feSub :
    fieldAfter (exec (.feSub 3 1 2) (fields (leVal a32) 18)) =
      some (true, bytes 32 0xef01030405060708090a0b0c0d0e0f101112131415161718191a1b1c1d1e1f20) := by decide +kernel

/-- 95_test_vectors.md V-F8. -/
theorem test_feSub_borrows :
    fieldAfter (exec (.feSub 3 2 1) (fields (leVal a32) 18)) =
      some (true, bytes 32 0xfefdfcfbfaf9f8f7f6f5f4f3f2f1f0efeeedecebeae9e8e7e6e5e4e3e2e1e05f) := by decide +kernel

/-- 95_test_vectors.md V-F9. -/
theorem test_feMul :
    fieldAfter (exec (.feMul 3 1 2) (fields (leVal a32) 18)) =
      some (true, bytes 32 0x5e2436485a6c7e90a2b4c6d8eafc0e21334557697b8d9fb1c3d5e7f90b1e3042) := by decide +kernel

/-- 95_test_vectors.md V-F10. -/
theorem test_feSq :
    fieldAfter (exec (.feSq 3 1) (fields (leVal a32) 0)) =
      some (true, bytes 32 0x4bf177a55460a3f83a45f21ca0561bc93a4bd5b3c1d9d693ebb8d61f6f9f8b0e) := by decide +kernel

/-- 95_test_vectors.md V-F18. -/
theorem test_feInv :
    fieldAfter (exec (.feInv 3 1) (fields (leVal a32) 0)) =
      some (true, bytes 32 0xe5faf5a435158b4cc68d583058fece071d8b8d20ed6abf17651a73c28fec414d) := by decide +kernel

/-- 95_test_vectors.md V-F19. -/
theorem test_feInv_zero :
    fieldAfter (exec (.feInv 3 1) (fields 0 0)) =
      some (true, bytes 32 0x0000000000000000000000000000000000000000000000000000000000000000) := by decide +kernel

/-- 95_test_vectors.md V-F23. -/
theorem test_fePow2523 :
    fieldAfter (exec (.fePow2523 3 1) (fields (leVal a32) 0)) =
      some (true, bytes 32 0xa27a1bc3a2b2db5d4a87c3737db7453d2213d015a67353166167824597f8c006) := by decide +kernel

/-- 95_test_vectors.md V-F37, V-F38. -/
theorem test_feCmov :
    [0, 1].map (fun c => (after (exec (.feCmov 2 1 4) ((fields 7 5).writeX 4 c))).map (fun t => t.F[2].value)) =
      [some 5, some 7] := by decide +kernel

/-- 95_test_vectors.md V-F39, V-F40: a condition of 2 faults with cause 6, with an invalid register first with cause 3. -/
theorem test_feCmov_faults :
    [exec (.feCmov 2 1 4) ((fields 7 5).writeX 4 2), exec (.feCmov 3 1 4) ((fields 7 5).writeX 4 2)].map causeAfter =
      [some (true, 6), some (true, 3)] := by decide +kernel

/-- 95_test_vectors.md V-F35 (18 and 18) and V-F36. -/
theorem test_feIseq :
    [fields 18 18, fields (leVal a32) 18].map (fun s => xAfter (exec (.feIseq 5 1 2) s) 5) =
      [some (true, 1), some (true, 0)] := by decide +kernel

/-- 95_test_vectors.md V-F30, V-F32. -/
theorem test_feParity :
    [fields (leVal a32) 0, fields (p - 1) 0].map (fun s => xAfter (exec (.feParity 5 1) s) 5) =
      [some (true, 1), some (true, 0)] := by decide +kernel

/-! ## Scalar commands; `scalarX` and `scalarM` are the x and m of 42_sc25519.md -/

/-- The scalar x of 42_sc25519.md. -/
def scalarX : Nat := leVal (bytes 32 0x275a174ad03fe2575cd01bc64f1a51e61012131415161718191a1b1c1d1e1f00)

/-- The scalar m of 42_sc25519.md. -/
def scalarM : Nat := leVal (bytes 32 0x1c95988d7431ecd670cf7d73f45befc6feffffffffffffffffffffffffffff0f)

/-- 42_sc25519.md R172: ff x 32 gives m. -/
theorem test_scFrom32 :
    scalarAfter (exec (.scFrom32 3 0) (holdingBytes (List.replicate 32 0xff) [] [])) =
      some (true, leBytes 32 scalarM) := by decide +kernel

/-- 42_sc25519.md R173: ff x 64. -/
theorem test_scFrom64 :
    scalarAfter (exec (.scFrom64 3 0) (holdingBytes (List.replicate 64 0xff) [] [])) =
      some (true, bytes 32 0x000f9c44e31106a447938568a71b0ed065bef517d273ecce3d9a307c1b419903) := by decide +kernel

/-- 42_sc25519.md R174: the bytes of the order minus 1. -/
theorem test_scTo32 :
    memAfter (exec (.scTo32 0 1) (scalars (ell - 1) 0)) 0 33 =
      some (bytes 32 0xecd3f55c1a631258d69cf7a2def9de1400000000000000000000000000000010 ++ [0x00]) := by decide +kernel

/-- 42_sc25519.md R175: x + m. -/
theorem test_scAdd :
    scalarAfter (exec (.scAdd 3 1 2) (scalars scalarX scalarM)) =
      some (true, bytes 32 0x561bba7a2a0ebcd6f602a296657c61980f12131415161718191a1b1c1d1e1f00) := by decide +kernel

/-- 42_sc25519.md R176: x m. -/
theorem test_scMul :
    scalarAfter (exec (.scMul 3 1 2) (scalars scalarX scalarM)) =
      some (true, bytes 32 0x10b4c2422d55419495a2a7c3ec608a30d8eb1ef3b0c3d5c9a3550bd293608f0f) := by decide +kernel

/-- 95_test_vectors.md V-C20: x. -/
theorem test_scWindow3 :
    memAfter (exec (.scWindow3 0 1) (scalars scalarX 0)) 0 85 =
      some (bytes 85
        0xfffd01fdfefffe0102010100fd00000202fc00fcfe01ff030002fffe02fc02fe000201fd0202fc03fefdfc0101fcfd01030200020102fd01fe03fcfc0200fe01010300fd02feff01fcfcfdff02fc0001fffc010000) := by
  decide +kernel

/-- 95_test_vectors.md V-C20: 36 = 4 + 4 * 8 becomes -4, -3, 1. -/
theorem test_scWindow3_carry :
    memAfter (exec (.scWindow3 0 1) (scalars 36 0)) 0 85 = some ([0xfc, 0xfd, 0x01] ++ List.replicate 82 0) := by
  decide +kernel

/-- 95_test_vectors.md V-C21: x and m. -/
theorem test_scIntlv2 :
    memAfter (exec (.scIntlv2 0 1 2) (scalars scalarX scalarM)) 0 127 =
      some (bytes 127
        0x030d06000606050903090508060e000900040d0707030f00020c0a0f0b05050d00030d050c0c010f070e0d040e010c0703070c0d0e0a05040d0c090d0a05020f080c0d0c0e0c0d0c0f0c0d0c0c0d0d0c0d0d0d0c0e0d0d0c0f0d0d0c0c0e0d0c0d0e0d0c0e0e0d0c0f0e0d0c0c0f0d0c0d0f0d0c0e0f0d0c0f0f0d0c0c0c00) := by
  decide +kernel

/-! ## Group commands -/

/-- 95_test_vectors.md V-G10: the point of pack(B), negated. -/
theorem test_geUnpackneg :
    let o := exec (.geUnpackneg 3 0 5) (holdingBytes (0x58 :: List.replicate 31 0x66) [] [])
    pointAfter o = some (true, 0x58 :: List.replicate 30 0x66 ++ [0xe6]) ∧ xAfter o 5 = some (true, 1) := by
  decide +kernel

/-- 95_test_vectors.md V-G14: y = 2 is no point; the destination is invalidated. -/
theorem test_geUnpackneg_fails :
    (after (exec (.geUnpackneg 1 0 5)
        (((holdingBytes (0x02 :: List.replicate 31 0) [] []).writeP 1 Point.base).writeX 5 9))).map
        (fun t => (t.X[5], t.P[1], t.STATUS.err)) = some (0, Slot.invalid Point.zero, false) := by decide +kernel

/-- 95_test_vectors.md V-G10, packed: -B has an odd x. -/
theorem test_gePack :
    memAfter (exec (.gePack 0 1) (pointsOf Point.base.neg Point.zero)) 0 33 =
      some (0x58 :: List.replicate 30 0x66 ++ [0xe6, 0x00]) := by decide +kernel

/-- 95_test_vectors.md V-G3: B + 2B, with 2B from GE.DBL (V-G2). -/
theorem test_geAdd :
    ((after (exec (.geDbl 2 1) (pointsOf Point.base Point.zero))).map fun t => pointAfter (exec (.geAdd 3 1 2) t)) =
      some (some (true, bytes 32 0xd4b4f5784868c3020403246717ec169ff79e26608ea126a1ab69ee77d1b16712)) := by
  decide +kernel

/-- 95_test_vectors.md V-G6: B + (-B) is the neutral point. -/
theorem test_geAdd_inverse :
    pointAfter (exec (.geAdd 3 1 2) (pointsOf Point.base Point.base.neg)) = some (true, leBytes 32 1) := by
  decide +kernel

/-- 95_test_vectors.md V-G2. -/
theorem test_geDbl :
    pointAfter (exec (.geDbl 3 1) (pointsOf Point.base Point.zero)) =
      some (true, bytes 32 0xc9a3f86aae465f0e56513864510f3997561fa2c9e85ea21dc2292309f3cd6022) := by
  decide +kernel

/-- 95_test_vectors.md V-G24: position 1, digit -4 gives -32 B. -/
theorem test_geMadd :
    pointAfter (exec (.geMadd 3 1 4 0) (((pointsOf Point.neutral Point.zero).writeMem 0 [0xfc]).writeX 4 1)) =
      some (true, bytes 32 0x69d2063a4f392df938408c4ce70512b4788bf8c0ec93de7a6bce2ce10ea934c4) := by
  decide +kernel

/-- 95_test_vectors.md V-G28 to V-G31: the position before the range, the range before the digit. -/
theorem test_geMadd_faults :
    [((85 : Word), (65536 : Word)), (0, 65536), (0, 0)].map
        (fun q => causeAfter (exec (.geMadd 3 1 4 5)
          ((((pointsOf Point.base Point.zero).writeMem 0 [0x05]).writeX 4 q.1).writeX 5 q.2))) =
      [some (true, 6), some (true, 4), some (true, 6)] := by decide +kernel

/-- 95_test_vectors.md V-G42: 2 B. -/
theorem test_geSmulbase :
    pointAfter (exec (.geSmulbase 3 1) (scalars 2 0)) =
      some (true, bytes 32 0xc9a3f86aae465f0e56513864510f3997561fa2c9e85ea21dc2292309f3cd6022) := by
  decide +kernel

/-- 95_test_vectors.md V-G54: 3 times the point of order 2. -/
theorem test_geDsmul :
    pointAfter (exec (.geDsmul 3 1 1 2 2)
        (((pointsOf { x := 0, y := p - 1 } Point.base).writeS 1 3).writeS 2 0)) =
      some (true, 0xec :: List.replicate 30 0xff ++ [0x7f]) := by decide +kernel

/-- 43_ge25519.md R200 on 1 B + 1 (2B), the point 3B of its heading: the operands are not swapped among themselves. -/
theorem test_geDsmul_operands :
    ((after (exec (.geDbl 2 1) ((pointsOf Point.base Point.zero).writeS 1 1))).map fun t =>
        pointAfter (exec (.geDsmul 3 1 1 2 1) t)) =
      some (some (true, bytes 32 0xd4b4f5784868c3020403246717ec169ff79e26608ea126a1ab69ee77d1b16712)) := by
  decide +kernel

/-! ## Ladder commands -/

/-- 95_test_vectors.md V-L3: the shared secret of n1 and pk2; the output overlaps the point string. -/
theorem test_xLadder :
    memAfter (exec (.xLadder 1 0 1) (holdingBytes a32
        (bytes 32 0x64b101b1d0be5a8704bd078f9895001fc03e8e9f9522f188dd128d9846d48466)
        [])) 64 32 =
      some (bytes 32 0x26c2c17fdb82161cb21ad16e721315355b64d1763119b10bfc962530dc7cc163) := by
  decide +kernel

/-- 95_test_vectors.md V-L12, V-L13: the point string 2^255 + 9, with X25519_MASK_U255 false and true. -/
theorem test_xLadder_mask :
    [false, true].map (fun mask =>
        memAfter (exec (.xLadder 3 0 1)
          { holdingBytes a32 (0x09 :: List.replicate 30 0 ++ [0x80]) [] with
            params := { dmemBytes := 65536, x25519MaskU255 := mask } }) 256 32) =
      [some (bytes 32 0x27b89cdbd23346f381679cb32474af1c24c6d700ef2b3baadc4792da85cb5030),
       some (bytes 32 0x07a37cbc142093c8b755dc1b10e86cb426374ad16aa853ed0bdfc0b2b86d1c7c)] := by
  decide +kernel

/-- 95_test_vectors.md V-L6: the scalar ff x 32. -/
theorem test_xBase :
    memAfter (exec (.xBase 3 0) (holdingBytes (List.replicate 32 0xff) [] [])) 256 32 =
      some (bytes 32 0x847c0d2c375234f365e660955187a3735a0f7613d1609d3a6a4d8c53aeaa5a22) := by
  decide +kernel

/-! ## Salsa20 commands -/

/-- The working words of the SA.LDW example of 45_salsa20.md R238. -/
def sigmaWords : Vector Word 16 :=
  #v[0x61707865, 0, 0, 0, 0, 0x3320646e, 0, 0, 0, 0, 0x79622d32, 0, 0, 0, 0, 0x6b206574]

/-- The example of 45_salsa20.md R238: input and key zero, the constant SIGMA. -/
theorem test_saLdw :
    (after (exec (.saLdw 0 1 2) (holdingBytes [] [] sigma))).map (fun t => (t.W, t.WV)) = some (sigmaWords, true) := by
  decide +kernel

/-- The layout of 45_salsa20.md R236: input 1 .. 16 at 0, key 33 .. 64 at 64, constant 101 .. 116 at 128. -/
theorem test_saLdw_layout :
    (after (exec (.saLdw 0 1 2) (holdingBytes ((List.range 16).map fun i => BitVec.ofNat 8 (i + 1))
        ((List.range 32).map fun i => BitVec.ofNat 8 (i + 33)) ((List.range 16).map fun i => BitVec.ofNat 8 (i + 101))))).map
        (fun t => t.W.toList.map fun v => v.toNat % 256) =
      some [101, 33, 37, 41, 45, 105, 1, 5, 9, 13, 109, 49, 53, 57, 61, 113] := by decide +kernel

/-- The example of 45_salsa20.md R239. -/
theorem test_saStw :
    memAfter (exec (.saStw 0) (blank.writeW sigmaWords)) 0 64 =
      some ([0x65, 0x78, 0x70, 0x61] ++ List.replicate 16 0 ++ [0x6e, 0x64, 0x20, 0x33] ++ List.replicate 16 0 ++
        [0x32, 0x2d, 0x62, 0x79] ++ List.replicate 16 0 ++ [0x74, 0x65, 0x20, 0x6b]) := by decide +kernel

/-- The example of 45_salsa20.md R240: SA.QR 0, 4, 8, 12. -/
theorem test_saQr :
    (after (exec (.saQr 0 4 8 12) (blank.writeW sigmaWords))).map (fun t => t.W) =
      some #v[0x50e6ebaf, 0, 0, 0, 0xb83c32b0, 0x3320646e, 0, 0, 0x59562a33, 0, 0x79622d32, 0, 0x4b9c6232, 0, 0,
        0x6b206574] := by decide +kernel

/-- The example of 45_salsa20.md R241. -/
theorem test_saDround :
    (after (exec .saDround (blank.writeW sigmaWords))).map (fun t => t.W) =
      some #v[0xf1e35811, 0xa40114dd, 0x218dc5bd, 0x4b61e284, 0xbe4befd4, 0x3fdfeb9f, 0x7b756e86, 0x6faac538,
        0xacdd42de, 0x1b6b1a1b, 0xc8248ce8, 0xbb3717eb, 0xeeb3332a, 0x68c62f5b, 0x9d4633d3, 0x0c8bdd57] := by
  decide +kernel

/-- 45_salsa20.md R242: word by word, modulo 2^32, little-endian. -/
theorem test_saAddw :
    (after (exec (.saAddw 0) ((blank.writeMem 0 ([1, 2, 0, 0] ++ List.replicate 56 0 ++ [0, 0, 0, 0xff])).writeW
        (Vector.replicate 16 0xffffffff)))).map (fun t => (t.W[0], t.W[1], t.W[15])) =
      some (0x00000200, 0xffffffff, 0xfeffffff) := by decide +kernel

/-- 45_salsa20.md R243: the second example. -/
theorem test_saCore :
    memAfter (exec (.saCore 3 0 1 2)
        (holdingBytes ((List.range 16).map fun i => BitVec.ofNat 8 (i + 0x65))
          (((List.range 16).map fun i => BitVec.ofNat 8 (i + 1)) ++
            (List.range 16).map fun i => BitVec.ofNat 8 (i + 0xc9)) sigma)) 256 64 =
      some (bytes 64
        0x45254427290f6bc1ff8b7a06aae9d9625990b66a1533c841ef31de22d772287e68c507e1c5991f02664e4cb054f5f6b8b1a0858206489577c0c384ecea67f64a) := by
  decide +kernel

/-- 45_salsa20.md R244: the second example; W is invalidated. -/
theorem test_saHcore :
    (after (exec (.saHcore 3 0 1 2)
        ((holdingBytes ((List.range 16).map fun i => BitVec.ofNat 8 (i + 0x65))
          (((List.range 16).map fun i => BitVec.ofNat 8 (i + 1)) ++
            (List.range 16).map fun i => BitVec.ofNat 8 (i + 0xc9)) sigma).writeW sigmaWords))).map
        (fun t => (t.DMEM.readBytes 256 32, t.WV, t.W[0])) =
      some (bytes 32 0xe0acd3c5a7cea70e3421ea367602d6df8acb76ba6e08bd11fb5698705427ac8d, false, 0) := by
  decide +kernel

/-! ## Poly1305 commands -/

/-- 46_poly1305.md R257: the RFC 7539 key. -/
theorem test_plInit :
    (after (exec (.plInit 0) (holdingBytes polyKey [] []))).map (fun t => (t.PR, t.PS, t.PH, t.PV)) =
      some (0x0806d5400e52447c036d555408bed685, 0x1bf54941aff6bf4afdb20dfb8a800301, 0, true) := by decide +kernel

/-- 46_poly1305.md R257: the key ff x 32. -/
theorem test_plInit_clamp :
    (after (exec (.plInit 0) (holdingBytes (List.replicate 32 0xff) [] []))).map (fun t => t.PR) =
      some 0x0ffffffc0ffffffc0ffffffc0fffffff := by decide +kernel

/-- 46_poly1305.md R258: the first chunk, and the last one of two bytes. -/
theorem test_plBlock :
    [((0 : Nat), (0 : Word), (16 : Word)), (0x2d8adaf23b0337fa7cccfb4ea344b30de, 32, 2)].map
        (fun q => (after (exec (.plBlock 4 5)
          ((((holdingBytes polyMessage [] []).writePoly q.1 0x0806d5400e52447c036d555408bed685 0).writeX 4 q.2.1).writeX 5
            q.2.2))).map (fun t => t.PH)) =
      [some 0x2c88c77849d64ae9147ddeb88e69c83fc, some 0x28d31b7caff946c77c8844335369d03a7] := by decide +kernel

/-- 46_poly1305.md R258 and 30_encoding.md R108: the state before the length, the length before the range. -/
theorem test_plBlock_faults :
    [exec (.plBlock 4 5) (blank.writeX 5 17), exec (.plBlock 4 5) ((blank.writePoly 0 0 0).writeX 4 65536),
     exec (.plBlock 4 5) (((blank.writePoly 0 0 0).writeX 4 65536).writeX 5 1)].map causeAfter =
      [some (true, 3), some (true, 5), some (true, 4)] := by decide +kernel

/-- 46_poly1305.md R259: the tag after the three chunks. -/
theorem test_plFinal :
    memAfter (exec (.plFinal 0)
        (blank.writePoly 0x28d31b7caff946c77c8844335369d03a7 0 0x1bf54941aff6bf4afdb20dfb8a800301)) 0 16 =
      some (bytes 16 0xa8061dc1305136c6c22b8baf0c0127a9) := by decide +kernel

/-- 46_poly1305.md R260: the RFC 7539 vector; the state is invalidated. -/
theorem test_plAuth :
    (after (exec (.plAuth 3 0 4 2) (((holdingBytes polyMessage [] polyKey).writeX 4 34).writePoly 1 2 3))).map
        (fun t => (t.DMEM.readBytes 256 16, t.PV, t.PS)) =
      some (bytes 16 0xa8061dc1305136c6c22b8baf0c0127a9, false, 0) := by decide +kernel

/-- 46_poly1305.md R260: the 17 bytes 00 .. 10, and no bytes at an address beyond DMEM. -/
theorem test_plAuth_lengths :
    [((0 : Word), (17 : Word)), (0xffffffff, 0)].map (fun q =>
        memAfter (exec (.plAuth 3 4 5 2)
          (((holdingBytes ((List.range 17).map fun i => BitVec.ofNat 8 i) [] polyKey).writeX 4 q.1).writeX 5 q.2))
          256 16) =
      [some (bytes 16 0x37477d65160c3ca0466aac5780785ef5),
       some (bytes 16 0x0103808afb0db2fd4abff6af4149f51b)] := by decide +kernel

/-- 46_poly1305.md R261: the tag, and the tag with byte 0 changed to a9; the result register also holds the length. -/
theorem test_plVerify :
    [0xa8061dc1305136c6c22b8baf0c0127a9, 0xa9061dc1305136c6c22b8baf0c0127a9].map (fun v =>
        xAfter (exec (.plVerify 4 1 0 4 2) ((holdingBytes polyMessage (bytes 16 v) polyKey).writeX 4 34)) 4) =
      [some (true, 1), some (true, 0)] := by decide +kernel

/-! ## Stream commands -/

/-- 47_stream.md R281: the first bytes of block 0, and W invalidated. -/
theorem test_s20Stream :
    (after (exec (.s20Stream 3 4 1 0) (((holdingBytes (0x80 :: List.replicate 31 0) [] []).writeX 4 20).writeW
        sigmaWords))).map (fun t => (t.DMEM.readBytes 256 21, t.WV)) =
      some (bytes 20 0xe3be8fdd8beca2e3ea8ef9475b29a6e7003951e1 ++ [0x00], false) := by
  decide +kernel

/-- 47_stream.md R282: pad 60, so that the message runs from block 0 into block 1. -/
theorem test_s20Xor :
    memAfter (exec (.s20Xor 3 1 4 2 0 5)
        (((holdingBytes (0x80 :: List.replicate 31 0) ((List.range 10).map fun i => BitVec.ofNat 8 i) []).writeX 4
          10).writeX 5 60)) 316 11 =
      some (bytes 11 0x7ef0a31489a7b149e71200) := by decide +kernel

/-- 47_stream.md R283. -/
theorem test_xsStream :
    memAfter (exec (.xsStream 3 4 1 0) ((holdingBytes naclKey naclNonce []).writeX 4 32)) 256 32 =
      some (bytes 32 0xeea6a7251c1e72916d11c2cb214d3c252539121d8e234e652d651fa4c8cff880) := by
  decide +kernel

/-- 47_stream.md R284: pad 32; the message is overwritten in place (R280). -/
theorem test_xsXor :
    memAfter (exec (.xsXor 4 2 5 1 0 6) ((((holdingBytes naclKey naclNonce
        (bytes 16 0xbe075fc53c81f2d5cf141316ebeb0c7b)).writeX 4 96).writeX 5 16).writeX 6 32)) 128 16 =
      some (bytes 16 0x8e993b9f48681273c29650ba32fc76ce) := by decide +kernel

/-- 30_encoding.md R108 and 47_stream.md R282: the pad before every range, the message before the nonce. -/
theorem test_s20Xor_faults :
    [((64 : Word), (65536 : Word)), (63, 65536)].map (fun q =>
        causeAfter (exec (.s20Xor 3 4 3 2 0 5) ((blank.writeX 5 q.1).writeX 4 q.2 |>.writeX 3 1))) =
      [some (true, 6), some (true, 4)] := by decide +kernel

/-! ## The host -/

/-- 10_state.md R52: a write of FE.PACK to CMD is accepted, runs, faults with UNINIT (40_system.md R132's example), and the next
write to CMD is dropped. -/
theorem test_host_commands :
    (match after (step { State.reset with
          inputs := [.access (.write .word 0x01C 0x11210000), .access (.write .word 0x01C 0)] }) with
      | none => none
      | some t =>
        match after (step t) with
        | none => none
        | some u => (after (step u)).map fun v => (t.STATUS.busy, u.CAUSE, u.ERRCMD, v.STATUS, v.CUR)) =
      some (true, 3, 0x11210000, { busy := false, done := false, err := true }, 0x11210000) := by decide +kernel

/-- 20_memory.md R73: byte reads after a 32-bit write. -/
theorem test_host_window :
    (match (State.reset.hostWrite .word 0x10004 0x44332211) with
      | none => none
      | some t => some [t.hostRead .byte 0x10004, t.hostRead .byte 0x10007, t.hostRead .half 0x10006,
          t.hostRead .half 0x10005]) =
      some [some 0x11, some 0x44, some 0x4433, none] := by decide +kernel

/-- 60_exceptions.md R355: CLR with bit 2. -/
theorem test_host_clr :
    (State.takeFault State.reset .badValue).writeClr 4 = State.reset := by decide +kernel

/-- A reset is served even while a command runs (70_reset_and_hazards.md R380). -/
theorem test_host_reset :
    (after (step { (blank.writeX 3 5).accept 0 with inputs := [.reset] })).map
        (fun t => (t.X[3], t.STATUS.busy, t.DMEM.background)) = some (0, false, .drawn 1) := by decide +kernel

/-! ## Witnesses: a state and operands that meet the hypotheses of each obligation, clause by clause, at the boundary values
of their ranges -/

/-- A block that runs NOP. X holds 0, 1, 16, 63, 84, the addresses that lie 1, 8, 16, 24, 32, 64, 85 and 127 bytes below the
end of DMEM, the end, 17, and the largest word; the registers 1 and 2 of each typed file, W and the Poly1305 state are valid;
the digit bytes 4, 5 and -4 lie at 0, 1 and at the last address. -/
def ready : State :=
  { blank with
    X := #v[0, 1, 16, 63, 84, 65535, 65528, 65520, 65512, 65504, 65472, 65451, 65409, 65536, 17, 0xffffffff]
    F := (blank.F.set 1 ⟨true, p - 1⟩).set 2 ⟨true, 5⟩
    S := (blank.S.set 1 ⟨true, ell - 1⟩).set 2 ⟨true, 3⟩
    P := (blank.P.set 1 ⟨true, Point.base⟩).set 2 ⟨true, Point.neutral⟩
    W := sigmaWords
    WV := true
    PH := p1305 - 1
    PR := 0x0ffffffc0ffffffc0ffffffc0fffffff
    PS := 7
    PV := true
    STATUS := { busy := true, done := false, err := false }
    DMEM := ((Memory.wiped.write 0 4).write 1 5).write 65535 0xfc }

/-- `ready`, but with BUSY = 0 and something at the port. -/
def waiting (inputs : List Input) : State :=
  { ready with STATUS := { busy := false, done := true, err := false }, inputs := inputs }

/-- `ready` with something at the port. -/
def running (inputs : List Input) : State := { ready with inputs := inputs }

/-- `ready` with another word to run. -/
def holdingWord (w : Word) : State := { ready with CUR := w }

theorem ready_inv : ready.Inv := by
  constructor <;> decide +kernel

theorem ready_pointsOnCurve : ready.PointsOnCurve := by
  unfold State.PointsOnCurve
  decide +kernel

theorem witness_DecodeOfEncode : (Instr.xsXor 15 15 15 15 15 15).wellFormed = true := by decide

theorem witness_EncodeOfDecode : decode 0x83ffffff = .ok (.xsXor 15 15 15 15 15 15) := by decide

theorem witness_UnassignedOpcodesFault :
    [0x02000000, 0x0fffffff, 0x17000000, 0x84000000, 0xffffffff].all (fun w =>
      (holdingWord w).STATUS.busy && (holdingWord w).inputs == [] &&
        unassignedOpcodes.any (fun r =>
          decide (r.1 ≤ (holdingWord w).CUR.toNat / 2 ^ 24) && decide ((holdingWord w).CUR.toNat / 2 ^ 24 ≤ r.2))) =
      true := by decide +kernel

theorem witness_MasksDecideReservedFields :
    (holdingWord 0x02000000).STATUS.busy = true ∧ (holdingWord 0x02000000).inputs = [] ∧
      (∀ r ∈ opcodeTable, r.opcode ≠ (holdingWord 0x02000000).CUR.toNat / 2 ^ 24) ∧
      (∃ r ∈ opcodeTable, r.opcode = (holdingWord 0x14312001).CUR.toNat / 2 ^ 24 ∧
        (holdingWord 0x14312001).CUR &&& r.mask ≠ r.pattern) ∧
      ∃ r ∈ opcodeTable, r.opcode = (holdingWord 0x14312000).CUR.toNat / 2 ^ 24 ∧
        (holdingWord 0x14312000).CUR &&& r.mask = r.pattern := by decide +kernel

theorem witness_StepRunsTheDecodedCommand :
    ((waiting []).STATUS.busy = false ∧ (waiting []).inputs = []) ∧
      ready.STATUS.busy = true ∧ decode ready.CUR = .ok .nop ∧ Instr.nop.wellFormed = true ∧ ready.inputs = [] ∧
      ((running [.access (.write .word 0x01C 0)]).inputs = .access (.write .word 0x01C 0) :: [] ∧
        (Access.write .word 0x01C 0).neverHeld = false) ∧
      (running [.access (.read .word 0x00C)]).inputs = .access (.read .word 0x00C) :: [] ∧
        (Access.read .word 0x00C).neverHeld = true := by decide +kernel

theorem witness_CommandWriteIsHeldDroppedOrAccepted :
    [running [.access (.write .word 0x01C 0x14312000)], waiting [.access (.write .word 0x01C 0x14312000)],
      { waiting [.access (.write .word 0x01C 0x14312000)] with STATUS := { busy := false, done := false, err := true } }].map
      (fun s => (s.inputs, s.STATUS.busy, s.STATUS.err)) =
    [([.access (.write .word 0x01C 0x14312000)], true, false), ([.access (.write .word 0x01C 0x14312000)], false, false),
      ([.access (.write .word 0x01C 0x14312000)], false, true)] := by decide +kernel

theorem witness_HeldAccessesWait :
    (running [.access (.read .word 0x010)]).STATUS.busy = true ∧
      (running [.access (.read .word 0x010)]).inputs = .access (.read .word 0x010) :: [] ∧
      Access.read .word 0x010 ≠ .read .word 0x00C ∧ Access.read .word 0x010 ≠ .read .word 0x000 ∧
      Access.read .word 0x010 ≠ .read .word 0x004 ∧
      (running [.access (.read .word 0x00C)]).STATUS.busy = true ∧
      (running [.access (.read .word 0x00C)]).inputs = .access (.read .word 0x00C) :: [] := by decide +kernel

theorem witness_HostReadsChangeNothing :
    [(waiting [.access (.read .byte 0x1FFFF)]).STATUS.busy, (waiting [.access (.write .word 0x014 1)]).STATUS.busy,
      (waiting [.access (.write .word (0x040 + 4 * 15) 7), .access (.read .word (0x040 + 4 * 15))]).STATUS.busy,
      (waiting [.access (.write .byte (0x10000 + 65535) 0x1ff), .access (.read .byte (0x10000 + 65535))]).STATUS.busy] =
      [false, false, false, false] ∧ (0x014 : Nat) ∈ [0x000, 0x004, 0x00C, 0x010, 0x014] ∧
      65535 < (waiting []).params.dmemBytes ∧
      (waiting [.access (.read .byte 0x1FFFF)]).hostRead .byte 0x1FFFF = some 0xfc ∧
      (waiting [.access (.read .word 0x020)]).hostRead .word 0x020 = none := by decide +kernel

theorem witness_ClrWriteReturnsFromFault :
    (waiting [.access (.write .word 0x018 6)]).inputs = .access (.write .word 0x018 6) :: [] ∧
      (waiting [.access (.write .word 0x018 6)]).STATUS.busy = false ∧
      (running [.access (.write .word 0x018 6)]).inputs = .access (.write .word 0x018 6) :: [] ∧
      (running [.access (.write .word 0x018 6)]).STATUS.busy = true := by decide +kernel

/-- `waiting` with the fault record of the word 0x02000000. -/
def faultRecorded (inputs : List Input) : State :=
  { waiting inputs with STATUS := { busy := false, done := false, err := true }, CAUSE := 1, ERRCMD := 0x02000000 }

theorem witness_ClrWriteReturnsFromFault_step :
    (∃ t, step (faultRecorded [.access (.write .word 0x018 4)]) = .next t ∧
      (faultRecorded [.access (.write .word 0x018 4)]).STATUS.err = true ∧ t.STATUS.err = false ∧
      t.CAUSE ≠ (faultRecorded [.access (.write .word 0x018 4)]).CAUSE) ∧
      (∃ t, step (faultRecorded [.reset]) = .next t ∧ t.STATUS.err = false) ∧
      ∃ t, step (holdingWord 0x02000000) = .next t ∧ t.CAUSE ≠ (holdingWord 0x02000000).CAUSE :=
  ⟨⟨_, rfl, rfl, rfl, by decide +kernel⟩, ⟨_, rfl, rfl⟩, _, rfl, by decide +kernel⟩

theorem witness_BusErrorsChangeNothing :
    ∀ q ∈ [(Width.half, 0x10001), (.word, 0x10002), (.byte, 0xFFFF), (.word, 0x020), (.word, 0x03C), (.word, 0x080),
        (.word, 0xFFFC), (.byte, 0x20000)],
      (waiting [.access (.read q.1 q.2)]).STATUS.busy = false ∧
        (waiting [.access (.read q.1 q.2)]).inputs = .access (.read q.1 q.2) :: [] ∧
        ((q.1 = .half ∧ q.2 % 2 ≠ 0) ∨ (q.1 = .word ∧ q.2 % 4 ≠ 0) ∨ (q.1 ≠ .word ∧ q.2 < 0x10000) ∨
          (0x020 ≤ q.2 ∧ q.2 < 0x040) ∨ (0x080 ≤ q.2 ∧ q.2 < 0x10000) ∨
          0x10000 + (waiting []).params.dmemBytes ≤ q.2) := by decide +kernel

theorem witness_WindowIsLittleEndian :
    ∀ q ∈ [(Width.byte, 1, 65535), (.half, 2, 65534), (.word, 4, 65532), (.word, 4, 0)],
      (q.1 = .byte ∧ q.2.1 = 1 ∨ q.1 = .half ∧ q.2.1 = 2 ∨ q.1 = .word ∧ q.2.1 = 4) ∧ q.2.2 % q.2.1 = 0 ∧
        q.2.2 + q.2.1 ≤ (waiting []).params.dmemBytes ∧
        (waiting [.access (.read q.1 (0x10000 + q.2.2))]).inputs = .access (.read q.1 (0x10000 + q.2.2)) :: [] ∧
        (waiting [.access (.write q.1 (0x10000 + q.2.2) 5)]).inputs =
          .access (.write q.1 (0x10000 + q.2.2) 5) :: [] := by decide +kernel

theorem witness_WindowIsLittleEndian_register :
    (waiting [.access (.read .half 0x07E)]).STATUS.busy = false ∧ Width.half ≠ .word ∧ 0x07E < 0x10000 ∧
      (waiting [.access (.read .half 0x07E)]).inputs = .access (.read .half 0x07E) :: [] := by decide +kernel

theorem witness_ControlRegistersReadAndWrite :
    ready.params.wf = true ∧ Params.wf ⟨1024, true⟩ = true ∧ Params.wf ⟨2 ^ 31, false⟩ = true ∧
      (waiting [.access (.read .word 0x00C)]).STATUS.busy = false ∧
      (waiting [.access (.read .word 0x00C)]).inputs = .access (.read .word 0x00C) :: [] ∧
      (waiting [.access (.read .word 0x00C)]).hostRead .word 0x00C = some 2 ∧
      (waiting [.access (.write .word 0x008 0xffffffff)]).inputs = .access (.write .word 0x008 0xffffffff) :: [] := by
  decide +kernel

theorem witness_ResetValues : ∃ t, (running [.reset]).inputs = .reset :: [] ∧ step (running [.reset]) = .next t :=
  ⟨_, rfl, rfl⟩

theorem witness_ResetDrawsDmem : (running [.reset]).inputs = .reset :: [] := rfl

theorem witness_StepKeepsInv : ready.Inv ∧ ∃ t, step ready = .next t := ⟨ready_inv, _, rfl⟩

theorem witness_ResetHasInv : Params.wf ⟨1024, true⟩ = true ∧ Params.wf ⟨2 ^ 31, false⟩ = true := by decide +kernel

theorem witness_StepKeepsPointsOnCurve : ready.PointsOnCurve ∧ ∃ t, step ready = .next t :=
  ⟨ready_pointsOnCurve, _, rfl⟩

theorem witness_CurveDenominatorsNeverVanish :
    Point.base.onCurve = true ∧ Point.onCurve ⟨0, p - 1⟩ = true := by decide +kernel

theorem witness_CurveLawHoldsOnPoints : Point.base.onCurve = true ∧ Point.neutral.onCurve = true := by decide +kernel

theorem witness_MultiplesAreRepeatedSums : Point.base.onCurve = true := by decide +kernel

theorem witness_FrameOfEveryCommand :
    Instr.s20Xor 0 13 0 6 9 0 ≠ .wipe ∧ ∃ t, exec (.s20Xor 0 13 0 6 9 0) ready = .next t := ⟨by decide, _, rfl⟩

theorem witness_CommandsWriteOnlyTruthValuesToX :
    Instr.feParity 4 2 ≠ .wipe ∧ ∃ t, exec (.feParity 4 2) ready = .next t ∧ t.X[4] ≠ ready.X[4] :=
  ⟨by decide, _, rfl, by decide +kernel⟩

/-- `ready` without its typed registers, working words and Poly1305 state, and with another word in CUR. -/
def hidden : State :=
  { ready with F := blank.F, S := blank.S, P := blank.P, W := blank.W, WV := false, PH := 0, PR := 0, PS := 0, PV := false, CUR := 9 }

theorem witness_HostSeesNoTypedRegister :
    ready.params = hidden.params ∧ ready.X = hidden.X ∧ ready.CTRL = hidden.CTRL ∧ ready.STATUS = hidden.STATUS ∧
      ready.CAUSE = hidden.CAUSE ∧ ready.ERRCMD = hidden.ERRCMD ∧ (∀ x, ready.DMEM.read x = hidden.DMEM.read x) ∧
      ready ≠ hidden :=
  ⟨rfl, rfl, rfl, rfl, rfl, rfl, fun _ => rfl, by decide +kernel⟩

theorem witness_ChecksRunInTheStepOrder :
    ready.sourcesValid (.feAdd 0 1 3) = false ∧
      (ready.sourcesValid (.plBlock 0 14) = true ∧ ready.valueFault (.plBlock 0 14) = some .badLength) ∧
      (ready.sourcesValid (.feCmov 1 2 2) = true ∧ ready.valueFault (.feCmov 1 2 2) = some .badValue) ∧
      (ready.sourcesValid (.feUnpack 1 13) = true ∧ ready.valueFault (.feUnpack 1 13) = none ∧
        ¬(∀ r ∈ ready.operandRanges (.feUnpack 1 13), r.2 = 0 ∨ r.1 + r.2 ≤ ready.params.dmemBytes)) ∧
      (ready.sourcesValid (.geMadd 3 1 4 1) = true ∧ ready.valueFault (.geMadd 3 1 4 1) = none ∧
        (∀ r ∈ ready.operandRanges (.geMadd 3 1 4 1), r.2 = 0 ∨ r.1 + r.2 ≤ ready.params.dmemBytes) ∧
        ready.digitLegal (.geMadd 3 1 4 1) = false) ∧
      ready.sourcesValid (.geMadd 3 1 4 5) = true ∧ ready.valueFault (.geMadd 3 1 4 5) = none ∧
        (∀ r ∈ ready.operandRanges (.geMadd 3 1 4 5), r.2 = 0 ∨ r.1 + r.2 ≤ ready.params.dmemBytes) ∧
        ready.digitLegal (.geMadd 3 1 4 5) = true := by decide +kernel

theorem witness_FaultsArePrecise :
    (holdingWord 0x02000000).STATUS.busy = true ∧ (holdingWord 0x02000000).STATUS.done = false ∧
      (holdingWord 0x02000000).STATUS.err = false ∧ (holdingWord 0x02000000).inputs = [] ∧
      ∃ t, step (holdingWord 0x02000000) = .next t ∧ t.STATUS.err = true := ⟨rfl, rfl, rfl, rfl, _, rfl, rfl⟩

theorem witness_UninitFaults : ready.STATUS.err = false := rfl

theorem witness_AddressSumsDoNotWrap :
    ready.STATUS.err = false ∧ ready.X[3].toNat ≤ 63 ∧ ready.X[6].toNat + 8 ≤ ready.params.dmemBytes ∧
      ready.X[9].toNat + 32 ≤ ready.params.dmemBytes := by decide +kernel

theorem witness_LengthAndValueFaults :
    (ready.PV = true ∧ ready.X[0].toNat = 0 ∧ 16 < ready.X[14].toNat) ∧
      (ready.F[1].valid = true ∧ ready.F[2].valid = true ∧ 1 < ({ ready with X := ready.X.set 0 2 }).X[0].toNat) ∧
      63 < ({ ready with X := ready.X.set 0 64 }).X[0].toNat ∧ ready.P[0].valid = false ∧ ready.P[1].valid = true ∧
      84 < ({ ready with X := ready.X.set 0 85 }).X[0].toNat ∧ ready.X[4].toNat ≤ 84 ∧
      ready.params.dmemBytes < ready.X[13].toNat + 1 ∧ ready.X[1].toNat + 1 ≤ ready.params.dmemBytes ∧
      ready.DMEM.read ready.X[1].toNat ∉
        ([0xfc, 0xfd, 0xfe, 0xff, 0x00, 0x01, 0x02, 0x03, 0x04] : List Byte) := by decide +kernel

theorem witness_FieldLoadAndStore :
    ready.Inv ∧ ready.xVal 9 + 32 ≤ ready.params.dmemBytes ∧ ready.F[1].valid = true :=
  ⟨ready_inv, by decide +kernel, rfl⟩

theorem witness_FieldArithmetic : ready.F[1].valid = true ∧ ready.F[2].valid = true := ⟨rfl, rfl⟩

theorem witness_FieldMoveAndPredicates :
    ready.F[1].valid = true ∧ ready.F[2].valid = true ∧ ready.X[0].toNat ≤ 1 ∧ ready.X[0].toNat = 0 ∧
      ready.X[1].toNat ≤ 1 ∧ ready.X[1].toNat = 1 := by decide +kernel

theorem witness_FieldPowers : ready.F[1].valid = true := rfl

theorem witness_FieldInverseInverts :
    ready.Inv ∧ ready.F[1].valid = true ∧ ready.F[1].value ≠ 0 ∧
      (ready.writeF 3 0).F[3].valid = true ∧ (ready.writeF 3 0).F[3].value = 0 :=
  ⟨ready_inv, rfl, by decide +kernel, rfl, rfl⟩

theorem witness_ScalarLoadAndStore :
    ready.Inv ∧ ready.xVal 9 + 32 ≤ ready.params.dmemBytes ∧ ready.xVal 10 + 64 ≤ ready.params.dmemBytes ∧
      ready.S[1].valid = true := ⟨ready_inv, by decide +kernel, by decide +kernel, rfl⟩

theorem witness_ScalarArithmetic : ready.S[1].valid = true ∧ ready.S[2].valid = true := ⟨rfl, rfl⟩

theorem witness_Window3Digits :
    ready.Inv ∧ ready.S[1].valid = true ∧ ready.xVal 11 + 85 ≤ ready.params.dmemBytes :=
  ⟨ready_inv, rfl, by decide +kernel⟩

theorem witness_InterleavedDigits :
    ready.Inv ∧ ready.S[1].valid = true ∧ ready.S[2].valid = true ∧ ready.xVal 12 + 127 ≤ ready.params.dmemBytes :=
  ⟨ready_inv, rfl, rfl, by decide +kernel⟩

/-- 43_ge25519.md R193: y = 2 has no root. Were there one, `num den` would be the square of `x den`, and its power
(p - 1) / 2 would be 1; it is -1. -/
theorem no_root_of_two : ¬∃ x < p, x * x * ((edwardsD * 2 * 2 + 1) % p) % p = (2 * 2 + (p - 1)) % p := by
  rintro ⟨x, -, hx⟩
  have : Fact (Nat.Prime p) := ⟨p_prime⟩
  have hc : (x : ZMod p) * x * ((edwardsD * 2 * 2 + 1 : Nat) : ZMod p) = ((2 * 2 + (p - 1) : Nat) : ZMod p) := by
    have := (ZMod.natCast_eq_natCast_iff' (x * x * ((edwardsD * 2 * 2 + 1) % p)) (2 * 2 + (p - 1)) p).2 hx
    simpa [Nat.cast_mul, ZMod.natCast_mod] using this
  have hn : ((2 * 2 + (p - 1) : Nat) : ZMod p) * ((edwardsD * 2 * 2 + 1 : Nat) : ZMod p) =
      ((x : ZMod p) * ((edwardsD * 2 * 2 + 1 : Nat) : ZMod p)) ^ 2 := by rw [← hc]; ring
  have hpow : ((((2 * 2 + (p - 1)) * (edwardsD * 2 * 2 + 1) : Nat) : ZMod p)) ^ ((p - 1) / 2) = ((p - 1 : Nat) : ZMod p) := by
    have h := powMod_eq p ((2 * 2 + (p - 1)) * (edwardsD * 2 * 2 + 1)) ((p - 1) / 2)
    have h' : powMod p ((2 * 2 + (p - 1)) * (edwardsD * 2 * 2 + 1)) ((p - 1) / 2) = p - 1 := by decide +kernel
    rw [h'] at h
    have h2 := congrArg (Nat.cast : Nat → ZMod p) h
    rw [ZMod.natCast_mod, Nat.cast_pow] at h2
    exact h2.symm
  rw [Nat.cast_mul, hn, ← pow_mul] at hpow
  have he : 2 * ((p - 1) / 2) = p - 1 := by decide +kernel
  rw [he] at hpow
  have hlast : ((p - 1 : Nat) : ZMod p) ≠ 0 ∧ ((p - 1 : Nat) : ZMod p) ≠ 1 := by
    constructor
    · intro h0
      have := (ZMod.natCast_eq_natCast_iff' (p - 1) 0 p).1 (by simpa using h0)
      exact absurd this (by decide +kernel)
    · intro h0
      have := (ZMod.natCast_eq_natCast_iff' (p - 1) 1 p).1 (by simpa using h0)
      exact absurd this (by decide +kernel)
  by_cases hz : (x : ZMod p) * ((edwardsD * 2 * 2 + 1 : Nat) : ZMod p) = 0
  · rw [hz, zero_pow (by decide +kernel)] at hpow
    exact hlast.1 hpow.symm
  · rw [ZMod.pow_card_sub_one_eq_one hz] at hpow
    exact hlast.2 hpow.symm

theorem witness_UnpackNegatedPoint :
    ready.xVal 9 + 32 ≤ ready.params.dmemBytes ∧
      (leVal ((holdingBytes (0x02 :: List.replicate 31 0) [] []).DMEM.readBytes 0 32) % 2 ^ 255 % p = 2 ∧
        ¬∃ x < p, x * x * ((edwardsD * 2 * 2 + 1) % p) % p = (2 * 2 + (p - 1)) % p) ∧
      ∃ x < p, x * x * ((edwardsD * 0 * 0 + 1) % p) % p = (0 * 0 + (p - 1)) % p :=
  ⟨by decide +kernel, ⟨by decide +kernel, no_root_of_two⟩, sqrtM1, by decide +kernel, by decide +kernel⟩

theorem witness_PackPoint :
    ready.Inv ∧ ready.P[1].valid = true ∧ ready.xVal 9 + 32 ≤ ready.params.dmemBytes :=
  ⟨ready_inv, rfl, by decide +kernel⟩

theorem witness_PointAddition :
    ready.P[1] = ⟨true, ⟨baseX, baseY⟩⟩ ∧ ready.P[2] = ⟨true, ⟨0, 1⟩⟩ := ⟨rfl, rfl⟩

theorem witness_MixedAddition :
    ready.P[1].valid = true ∧ ready.X[4].toNat ≤ 84 ∧ ready.X[5].toNat + 1 ≤ ready.params.dmemBytes ∧
      signed8 (ready.DMEM.read ready.X[5].toNat) = -4 ∧ ready.X[0].toNat + 1 ≤ ready.params.dmemBytes ∧
      signed8 (ready.DMEM.read ready.X[0].toNat) = 4 := by decide +kernel

theorem witness_ScalarMultiples :
    ready.S[1].valid = true ∧ ready.P[1].valid = true ∧ ready.P[2].valid = true ∧ ready.S[2].valid = true :=
  ⟨rfl, rfl, rfl, rfl⟩

theorem witness_FixedBaseLoop : ready.Inv ∧ ready.S[1].valid = true := ⟨ready_inv, rfl⟩

theorem witness_LadderResults :
    ready.xVal 9 + 32 ≤ ready.params.dmemBytes ∧
      leVal ((((ready.DMEM.readBytes (ready.xVal 9) 32).set 0 (ready.DMEM.read (ready.xVal 9) &&& 248)).set 31
        (ready.DMEM.read (ready.xVal 9 + 31) &&& 127 ||| 64))) = 0x7c * 2 ^ 248 := by decide +kernel

/-- 32 bytes that hold `v`, at the start of DMEM, on an instance that masks bit 255 of a point string, or not. -/
def holdingPoint (mask : Bool) (v : Nat) : State :=
  { holdingBytes (leBytes 32 v) [] [] with params := { ready.params with x25519MaskU255 := mask } }

/-- What the point string at the start of DMEM decodes to (44_curve25519.md R222). -/
def heldPoint (s : State) : Nat :=
  (if s.params.x25519MaskU255 = true then leVal (s.DMEM.readBytes (s.xVal 0) 32) % 2 ^ 255
    else leVal (s.DMEM.readBytes (s.xVal 0) 32)) % p

theorem witness_LadderOfZeroIsZero :
    ready.xVal 9 + 32 ≤ ready.params.dmemBytes ∧ ready.xVal 3 + 32 ≤ ready.params.dmemBytes ∧
      [(true, 0), (true, p), (true, 2 ^ 255), (true, 2 ^ 255 + p), (false, 0), (false, p), (false, 2 * p)].all (fun q =>
        (holdingPoint q.1 q.2).xVal 0 + 32 ≤ (holdingPoint q.1 q.2).params.dmemBytes &&
          heldPoint (holdingPoint q.1 q.2) == 0) = true := by decide +kernel

/-- The u-coordinate of a point of order 8. -/
def orderEight : Nat := 325606250916557431795983626356110631294008115727848805560023387167927233504

theorem orderEight_double :
    ((orderEight : ZMod p) ^ 2 - 1) ^ 2 = 4 * orderEight * ((orderEight : ZMod p) ^ 2 + 486662 * orderEight + 1) := by
  have h := (ZMod.natCast_eq_natCast_iff' ((orderEight ^ 2 - 1) ^ 2)
    (4 * orderEight * (orderEight ^ 2 + 486662 * orderEight + 1)) p).2 (by decide +kernel)
  have h1 : 1 ≤ orderEight ^ 2 := by decide +kernel
  simpa [Nat.cast_sub h1] using h

theorem witness_LadderOfSmallOrderIsZero :
    [(true, 2 ^ 255 + 1, 1), (false, 2 * p + 1, 1), (true, p - 1, p - 1), (false, 2 * p - 1, p - 1), (true, orderEight, orderEight),
        (false, orderEight + p, orderEight)].all (fun q =>
        (holdingPoint q.1 q.2.1).xVal 0 + 32 ≤ (holdingPoint q.1 q.2.1).params.dmemBytes &&
          heldPoint (holdingPoint q.1 q.2.1) == q.2.2) = true ∧
      ((orderEight : ZMod p) ^ 2 - 1) ^ 2 = 4 * orderEight * ((orderEight : ZMod p) ^ 2 + 486662 * orderEight + 1) :=
  ⟨by decide +kernel, orderEight_double⟩

theorem witness_SalsaWords :
    ready.xVal 7 + 16 ≤ ready.params.dmemBytes ∧ ready.xVal 9 + 32 ≤ ready.params.dmemBytes ∧ ready.WV = true ∧
      ready.xVal 10 + 64 ≤ ready.params.dmemBytes := by decide +kernel

theorem witness_QuarterRound :
    ready.WV = true ∧ (3 : WIdx) ∉ [0, 4, 8, 12] ∧ [(0 : WIdx), 4, 8, 12].Nodup ∧ (15 : WIdx) = 15 := by decide +kernel

theorem witness_DoubleRoundIsEightQuarterRounds : ready.WV = true := rfl

theorem witness_SalsaComposites :
    ready.xVal 7 + 16 ≤ ready.params.dmemBytes ∧ ready.xVal 9 + 32 ≤ ready.params.dmemBytes ∧
      ready.xVal 10 + 64 ≤ ready.params.dmemBytes := by decide +kernel

theorem witness_SalsaStepsEqualComposites :
    ready.xVal 7 + 16 ≤ ready.params.dmemBytes ∧ ready.xVal 9 + 32 ≤ ready.params.dmemBytes ∧
      ready.xVal 2 + 16 ≤ ready.params.dmemBytes ∧ ready.xVal 10 + 64 ≤ ready.params.dmemBytes ∧
      ready.xVal 3 + 64 ≤ ready.params.dmemBytes := by decide +kernel

theorem witness_PolySteps :
    ready.xVal 9 + 32 ≤ ready.params.dmemBytes ∧ ready.PV = true ∧
      (1 ≤ ready.xVal 1 ∧ ready.xVal 1 ≤ 16 ∧ ready.xVal 5 + ready.xVal 1 ≤ ready.params.dmemBytes) ∧
      (1 ≤ ready.xVal 2 ∧ ready.xVal 2 ≤ 16 ∧ ready.xVal 7 + ready.xVal 2 ≤ ready.params.dmemBytes) ∧
      ready.xVal 7 + 16 ≤ ready.params.dmemBytes := by decide +kernel

theorem witness_PolyOneShots :
    (ready.xVal 0 = 0 ∨ ready.xVal 15 + ready.xVal 0 ≤ ready.params.dmemBytes) ∧
      (ready.xVal 13 = 0 ∨ ready.xVal 0 + ready.xVal 13 ≤ ready.params.dmemBytes) ∧
      ready.xVal 9 + 32 ≤ ready.params.dmemBytes ∧ ready.xVal 7 + 16 ≤ ready.params.dmemBytes := by decide +kernel

theorem witness_PolyStepsEqualOneShot :
    ready.Inv ∧ (0 : XReg) ≠ 14 ∧ (7 : XReg) ≠ 0 ∧ (7 : XReg) ≠ 14 ∧
      (ready.xVal 14 = 0 ∨ ready.xVal 0 + ready.xVal 14 ≤ ready.params.dmemBytes) ∧
      ready.xVal 9 + 32 ≤ ready.params.dmemBytes ∧ ready.xVal 7 + 16 ≤ ready.params.dmemBytes :=
  ⟨ready_inv, by decide, by decide, by decide, by decide +kernel, by decide +kernel, by decide +kernel⟩

theorem witness_KeystreamBytes :
    ready.xVal 9 + 32 ≤ ready.params.dmemBytes ∧
      (ready.xVal 13 = 0 ∨ ready.xVal 0 + ready.xVal 13 ≤ ready.params.dmemBytes) ∧
      (ready.xVal 0 = 0 ∨ ready.xVal 15 + ready.xVal 0 ≤ ready.params.dmemBytes) ∧
      ready.xVal 6 + 8 ≤ ready.params.dmemBytes ∧ ready.xVal 8 + 24 ≤ ready.params.dmemBytes := by decide +kernel

theorem witness_StreamXorIsTheByteLoop :
    ready.xVal 3 ≤ 63 ∧ (ready.xVal 14 = 0 ∨ ready.xVal 0 + ready.xVal 14 ≤ ready.params.dmemBytes) ∧
      ready.xVal 9 + 32 ≤ ready.params.dmemBytes ∧
      (ready.xVal 3 + ready.xVal 14 = 0 ∨ ready.xVal 11 + (ready.xVal 3 + ready.xVal 14) ≤ ready.params.dmemBytes) ∧
      ready.xVal 6 + 8 ≤ ready.params.dmemBytes ∧ ready.xVal 8 + 24 ≤ ready.params.dmemBytes := by decide +kernel

theorem witness_StreamXorOfACopiedMessage :
    (ready.xVal 0 + ready.xVal 1 ≤ ready.xVal 1 ∨ ready.xVal 1 + ready.xVal 14 ≤ ready.xVal 0) ∧
      ready.STATUS.err = false ∧
      (∃ t, exec (.s20Xor 0 1 14 6 9 1) ready = .next t ∧ t.STATUS.err = false) ∧
      ∃ t, exec (.xsXor 0 1 14 8 9 1) ready = .next t ∧ t.STATUS.err = false :=
  ⟨by decide +kernel, rfl, ⟨_, rfl, rfl⟩, _, rfl, rfl⟩

end Sys2Proof.Tests
end

/-! # What a command does when it completes

Every meaning reads its operands and then makes one write. `Effect s k u` names that write, with what the checks before it
have established; `exec_effect` says so of every command but WIPE, and what a command keeps is proved once per kind of write,
not once per command. -/

namespace Sys2Proof.Machine

variable {s t u : State}

/-! ## Computations that may fault -/

/-- Whatever `r` answers without a fault satisfies `Q`. -/
def Ensures {α : Type} (Q : α → Prop) (r : Except Cause α) : Prop := ∀ v, r = .ok v → Q v

theorem ensures_pure {α : Type} {Q : α → Prop} {v : α} (h : Q v) : Ensures Q (pure v) := by
  rintro _ ⟨⟩
  exact h

theorem ensures_ok {α : Type} {Q : α → Prop} {v : α} (h : Q v) : Ensures Q (.ok v) := ensures_pure h

/-- After an operand or a check, what it answered is known. -/
theorem ensures_bind {α β : Type} {Q : β → Prop} {x : Except Cause α} {g : α → Except Cause β}
    (h : ∀ a, x = .ok a → Ensures Q (g a)) : Ensures Q (x >>= g) := by
  intro v hv
  obtain ⟨a, hx, hg⟩ := bind_ok.1 hv
  exact h a hx v hg

/-! ## The writes of the commands -/

/-- Canonical coordinates (10_state.md R30). -/
def Point.canonical (q : Point) : Prop := q.x < p ∧ q.y < p

/-- The one write by which a completing command leaves `u` from `s`, where `k` is what it may touch (20_memory.md R77). -/
inductive Effect (s : State) : Touch → State → Prop
  | none : Effect s {} s
  | truth (d : XReg) (b : Bool) : Effect s { x := [d] } (s.writeX d (boolWord b))
  | field (d : FReg) {v : Nat} (hv : v < p) : Effect s { f := [d] } (s.writeF d v)
  | fieldCopy (d a : FReg) (ha : s.F[a].valid = true) : Effect s { f := [d] } (s.writeF d s.F[a].value)
  | scalar (d : SReg) {v : Nat} (hv : v < ell) : Effect s { s := [d] } (s.writeS d v)
  | point (d : PReg) {q : Point} (hq : q.canonical) : Effect s { p := [d] } (s.writeP d q)
  | unpacked (d : PReg) (b : XReg) {y : Nat} {root : Option Nat} (hy : y < p) (hroot : ∀ x, root = some x → x < p) :
      Effect s { x := [b], p := [d] } (s.writeUnpacked d b y root)
  | words (w : Vector Word 16) : Effect s { w := true } (s.writeW w)
  | polyKey (key : List Byte) : Effect s { poly := true } (s.writePoly 0 (keyR key) (keyS key))
  | polyAcc {h : Nat} (hv : s.PV = true) (hh : h < p1305) : Effect s { poly := true } (s.writePH h)
  | mem {q n : Nat} {bs : List Byte} (hq : s.inRange q n = true) (hn : bs.length = n) :
      Effect s { base := q, count := n } (s.writeMem q bs)
  | memWords {q n : Nat} {bs : List Byte} (hq : s.inRange q n = true) (hn : bs.length = n) :
      Effect s { w := true, base := q, count := n } (s.writeMem q bs).invalidateW
  | memPoly {q n : Nat} {bs : List Byte} (hq : s.inRange q n = true) (hn : bs.length = n) :
      Effect s { poly := true, base := q, count := n } (s.writeMem q bs).invalidatePoly
  | truthPoly (d : XReg) (b : Bool) : Effect s { x := [d], poly := true } (s.writeX d (boolWord b)).invalidatePoly
  | stream {q n : Nat} (m pad : Nat) {ks : List Byte} (hq : s.inRange q n = true) (hn : ks.length = n) :
      Effect s { w := true, base := q, count := n } (s.withMem (streamLoop s.DMEM q m pad ks)).invalidateW

/-- No effect reaches the status bits before the command ends (10_state.md R52). -/
theorem Effect.status {k : Touch} (h : Effect s k u) : u.STATUS = s.STATUS := by cases h <;> rfl

/-- A byte string stored at a destination operand. -/
theorem effect_dest {d : XReg} {n q : Nat} {bs : List Byte} (hq : s.needDest d n = .ok q) (hn : bs.length = n) :
    Effect s { base := s.xVal d, count := n } (s.writeMem q bs) := by
  obtain ⟨hr, rfl⟩ := State.needDest_ok.1 hq
  exact .mem hr hn

/-! ## The values written are canonical -/

theorem ell_pos : 0 < ell := by decide +kernel

theorem Point.add_canonical (q r : Point) : (q.add r).canonical := ⟨fMul_lt _ _, fMul_lt _ _⟩

theorem Point.neutral_canonical : Point.neutral.canonical := by
  unfold Point.canonical
  decide +kernel

theorem Point.smul_canonical (k : Nat) (q : Point) : (Point.smul k q).canonical := by
  simp only [Point.smul, Point.smulStep]
  split
  · exact Point.neutral_canonical
  · split
    · exact Point.add_canonical _ _
    · exact Point.add_canonical _ _

theorem sqrtRatio_lt {num den r : Nat} (h : sqrtRatio num den = some r) : r < p := by
  simp only [sqrtRatio] at h
  split at h
  · cases h
    exact fMul_lt _ _
  · split at h
    · cases h
      exact fMul_lt _ _
    · cases h

theorem recoverNegX_lt {y par x : Nat} (h : recoverNegX y par = some x) : x < p := by
  rw [recoverNegX, Option.map_eq_some_iff] at h
  obtain ⟨r, hr, rfl⟩ := h
  split
  · exact p_pos
  · split
    · exact sqrtRatio_lt hr
    · exact Nat.mod_lt _ p_pos

theorem absorb_lt (h r : Nat) (ch : List Byte) : absorb h r ch < p1305 := Nat.mod_lt _ (by decide +kernel)

/-- Clamping twice is clamping once (46_poly1305.md R257). -/
theorem keyR_clamped (key : List Byte) : keyR key &&& 0x0ffffffc0ffffffc0ffffffc0fffffff = keyR key := by
  rw [keyR, clampR, BitVec.and_assoc, BitVec.and_self]

/-! ## The shared operations of the meanings -/

theorem fieldBinary_effect {g : Nat → Nat → Nat} (hg : ∀ x y, g x y < p) (d a b : FReg) :
    Ensures (Effect s { f := [d] }) (s.fieldBinary g d a b) := by
  intro u hu
  obtain ⟨-, -, rfl⟩ := State.fieldBinary_ok.1 hu
  exact .field d (hg _ _)

theorem fieldUnary_effect {g : Nat → Nat} (hg : ∀ x, g x < p) (d a : FReg) :
    Ensures (Effect s { f := [d] }) (s.fieldUnary g d a) := by
  intro u hu
  obtain ⟨-, rfl⟩ := State.fieldUnary_ok.1 hu
  exact .field d (hg _)

theorem scalarLoad_effect (n : Nat) (d : SReg) (a : XReg) : Ensures (Effect s { s := [d] }) (s.scalarLoad n d a) := by
  intro u hu
  obtain ⟨-, rfl⟩ := State.scalarLoad_ok.1 hu
  exact .scalar d (Nat.mod_lt _ ell_pos)

theorem scalarBinary_effect {g : Nat → Nat → Nat} (hg : ∀ x y, g x y < ell) (d a b : SReg) :
    Ensures (Effect s { s := [d] }) (s.scalarBinary g d a b) := by
  intro u hu
  obtain ⟨-, -, rfl⟩ := State.scalarBinary_ok.1 hu
  exact .scalar d (hg _ _)

theorem salsaComposite_effect {core : List Byte → List Byte → List Byte → List Byte} {n : Nat}
    (hn : ∀ x k c, (core x k c).length = n) (d a b c : XReg) :
    Ensures (Effect s { w := true, base := s.xVal d, count := n }) (s.salsaComposite core n d a b c) := by
  intro u hu
  obtain ⟨-, -, -, hd, rfl⟩ := State.salsaComposite_ok.1 hu
  exact .memWords hd (hn _ _ _)

theorem streamOut_effect {ks : List Byte → List Byte → Nat → List Byte} (hks : ∀ x k n, (ks x k n).length = n) (n : Nat)
    (d a b c : XReg) :
    Ensures (Effect s { w := true, base := s.xVal d, count := s.xVal a }) (s.streamOut ks n d a b c) := by
  intro u hu
  obtain ⟨-, -, hd, rfl⟩ := State.streamOut_ok.1 hu
  exact .memWords hd (hks _ _ _)

theorem streamXor_effect {ks : List Byte → List Byte → Nat → List Byte} (hks : ∀ x k n, (ks x k n).length = n) (n : Nat)
    (d a b c e f : XReg) :
    Ensures (Effect s { w := true, base := s.xVal d, count := s.xVal f + s.xVal b })
      (s.streamXor ks n d a b c e f) := by
  intro u hu
  obtain ⟨-, -, -, -, hd, rfl⟩ := State.streamXor_ok.1 hu
  exact .stream _ _ hd (hks _ _ _)

/-! ## The commands -/

/-- `exec i s` is a computation that has the effect `k`, ended by the one operation that ends commands. -/
def HasEffect (i : Instr) (s : State) (k : Touch) : Prop := ∃ r, exec i s = s.finish r ∧ Ensures (Effect s k) r

/-- FE.CMOV copies one of the two registers it reads (41_fe25519.md R148). -/
theorem feCmov_effect (d a : FReg) (b : XReg) (s : State) : HasEffect (.feCmov d a b) s { f := [d] } := by
  refine ⟨_, rfl, ensures_bind fun old hold => ensures_bind fun x hx => ensures_bind fun _ _ => ensures_pure ?_⟩
  obtain ⟨hd, rfl⟩ := State.needF_ok.1 hold
  obtain ⟨ha, rfl⟩ := State.needF_ok.1 hx
  split
  · exact .fieldCopy d a ha
  · exact .fieldCopy d d hd

/-- GE.UNPACKNEG writes canonical coordinates or the invalid register (43_ge25519.md R193). -/
theorem geUnpackneg_effect (d : PReg) (a b : XReg) (s : State) :
    HasEffect (.geUnpackneg d a b) s { x := [b], p := [d] } :=
  ⟨_, rfl, ensures_bind fun _ _ => ensures_pure (.unpacked d b (fDecode_lt _) fun _ => recoverNegX_lt)⟩

/-- PL.BLOCK reads a valid accumulator and leaves a reduced one (46_poly1305.md R258). -/
theorem plBlock_effect (a b : XReg) (s : State) : HasEffect (.plBlock a b) s { poly := true } :=
  ⟨_, rfl, ensures_bind fun _ hv => ensures_bind fun _ _ => ensures_bind fun _ _ =>
    ensures_pure (.polyAcc (State.needPoly_ok.1 hv) (absorb_lt _ _ _))⟩

/-- PL.AUTH stores the tag and invalidates the Poly1305 state (46_poly1305.md R260). -/
theorem plAuth_effect (d a b c : XReg) (s : State) :
    HasEffect (.plAuth d a b c) s { poly := true, base := s.xVal d, count := 16 } := by
  refine ⟨_, rfl, ensures_bind fun m _ => ensures_bind fun key _ => ensures_bind fun q hq => ensures_pure ?_⟩
  obtain ⟨hr, rfl⟩ := State.needDest_ok.1 hq
  exact .memPoly hr (poly1305_length _ _)

/-- What a command but WIPE does when it completes, said once: the one write of its row, on what it may touch. -/
theorem exec_effect {i : Instr} (hi : i ≠ .wipe) (s : State) : HasEffect i s (s.touched i) := by
  cases i with
  | nop => exact ⟨.ok s, rfl, ensures_ok .none⟩
  | wipe => exact absurd rfl hi
  | feUnpack d a => exact ⟨_, rfl, ensures_bind fun _ _ => ensures_pure (.field d (fDecode_lt _))⟩
  | fePack d a =>
    exact ⟨_, rfl, ensures_bind fun _ _ => ensures_bind fun _ hq => ensures_pure (effect_dest hq (by simp))⟩
  | feAdd d a b => exact ⟨_, rfl, fieldBinary_effect fAdd_lt d a b⟩
  | feSub d a b => exact ⟨_, rfl, fieldBinary_effect fSub_lt d a b⟩
  | feMul d a b => exact ⟨_, rfl, fieldBinary_effect fMul_lt d a b⟩
  | feSq d a => exact ⟨_, rfl, fieldUnary_effect (fun x => fMul_lt x x) d a⟩
  | feCmov d a b => exact feCmov_effect d a b s
  | feIseq d a b => exact ⟨_, rfl, ensures_bind fun _ _ => ensures_bind fun _ _ => ensures_pure (.truth d _)⟩
  | feParity d a => exact ⟨_, rfl, ensures_bind fun _ _ => ensures_pure (.truth d _)⟩
  | feInv d a => exact ⟨_, rfl, fieldUnary_effect fInv_lt d a⟩
  | fePow2523 d a => exact ⟨_, rfl, fieldUnary_effect fPow2523_lt d a⟩
  | scFrom32 d a => exact ⟨_, rfl, scalarLoad_effect 32 d a⟩
  | scFrom64 d a => exact ⟨_, rfl, scalarLoad_effect 64 d a⟩
  | scTo32 d a =>
    exact ⟨_, rfl, ensures_bind fun _ _ => ensures_bind fun _ hq => ensures_pure (effect_dest hq (by simp))⟩
  | scAdd d a b => exact ⟨_, rfl, scalarBinary_effect (fun _ _ => Nat.mod_lt _ ell_pos) d a b⟩
  | scMul d a b => exact ⟨_, rfl, scalarBinary_effect (fun _ _ => Nat.mod_lt _ ell_pos) d a b⟩
  | scWindow3 d a =>
    exact ⟨_, rfl, ensures_bind fun _ _ => ensures_bind fun _ hq => ensures_pure (effect_dest hq (by simp))⟩
  | scIntlv2 d a b =>
    exact ⟨_, rfl, ensures_bind fun _ _ => ensures_bind fun _ _ => ensures_bind fun _ hq =>
      ensures_pure (effect_dest hq (by simp))⟩
  | geUnpackneg d a b => exact geUnpackneg_effect d a b s
  | gePack d a =>
    exact ⟨_, rfl, ensures_bind fun _ _ => ensures_bind fun _ hq => ensures_pure (effect_dest hq (by simp))⟩
  | geAdd d a b =>
    exact ⟨_, rfl, ensures_bind fun _ _ => ensures_bind fun _ _ => ensures_pure (.point d (Point.add_canonical _ _))⟩
  | geDbl d a => exact ⟨_, rfl, ensures_bind fun _ _ => ensures_pure (.point d (Point.add_canonical _ _))⟩
  | geMadd d a b c =>
    exact ⟨_, rfl, ensures_bind fun _ _ => ensures_bind fun _ _ => ensures_bind fun _ _ => ensures_bind fun _ _ =>
      ensures_pure (.point d (Point.add_canonical _ _))⟩
  | geSmulbase d a => exact ⟨_, rfl, ensures_bind fun _ _ => ensures_pure (.point d (Point.smul_canonical _ _))⟩
  | geDsmul d a b c e =>
    exact ⟨_, rfl, ensures_bind fun _ _ => ensures_bind fun _ _ => ensures_bind fun _ _ => ensures_bind fun _ _ =>
      ensures_pure (.point d (Point.add_canonical _ _))⟩
  | xLadder d a b =>
    exact ⟨_, rfl, ensures_bind fun _ _ => ensures_bind fun _ _ => ensures_bind fun _ hq =>
      ensures_pure (effect_dest hq (by simp))⟩
  | xBase d a =>
    exact ⟨_, rfl, ensures_bind fun _ _ => ensures_bind fun _ hq => ensures_pure (effect_dest hq (by simp))⟩
  | saLdw a b c =>
    exact ⟨_, rfl, ensures_bind fun _ _ => ensures_bind fun _ _ => ensures_bind fun _ _ => ensures_pure (.words _)⟩
  | saStw d =>
    exact ⟨_, rfl, ensures_bind fun _ _ => ensures_bind fun _ hq => ensures_pure (effect_dest hq (by simp))⟩
  | saQr i0 i1 i2 i3 => exact ⟨_, rfl, ensures_bind fun _ _ => ensures_pure (.words _)⟩
  | saDround => exact ⟨_, rfl, ensures_bind fun _ _ => ensures_pure (.words _)⟩
  | saAddw a => exact ⟨_, rfl, ensures_bind fun _ _ => ensures_bind fun _ _ => ensures_pure (.words _)⟩
  | saCore d a b c => exact ⟨_, rfl, salsaComposite_effect salsaCore_length d a b c⟩
  | saHcore d a b c => exact ⟨_, rfl, salsaComposite_effect hsalsaCore_length d a b c⟩
  | plInit a => exact ⟨_, rfl, ensures_bind fun key _ => ensures_pure (.polyKey key)⟩
  | plBlock a b => exact plBlock_effect a b s
  | plFinal d =>
    exact ⟨_, rfl, ensures_bind fun _ _ => ensures_bind fun _ hq => ensures_pure (effect_dest hq (by simp))⟩
  | plAuth d a b c => exact plAuth_effect d a b c s
  | plVerify d a b c e =>
    exact ⟨_, rfl, ensures_bind fun _ _ => ensures_bind fun _ _ => ensures_bind fun _ _ =>
      ensures_pure (.truthPoly d _)⟩
  | s20Stream d a b c => exact ⟨_, rfl, streamOut_effect keystream_length 8 d a b c⟩
  | s20Xor d a b c e f => exact ⟨_, rfl, streamXor_effect keystream_length 8 d a b c e f⟩
  | xsStream d a b c => exact ⟨_, rfl, streamOut_effect xkeystream_length 24 d a b c⟩
  | xsXor d a b c e f => exact ⟨_, rfl, streamXor_effect xkeystream_length 24 d a b c e f⟩

/-- How a command but WIPE ends: by its effect and completion, or by one fault record (10_state.md R52). -/
theorem exec_cases {i : Instr} (hi : i ≠ .wipe) (h : exec i s = .next t) :
    (∃ u, Effect s (s.touched i) u ∧ t = u.complete) ∨ ∃ c, t = s.takeFault c := by
  obtain ⟨r, hr, hu⟩ := exec_effect hi s
  rw [hr, State.finish_next] at h
  rcases h with ⟨u, rfl, rfl⟩ | ⟨c, -, rfl⟩
  · exact .inl ⟨u, hu u rfl, rfl⟩
  · exact .inr ⟨c, rfl⟩

end Sys2Proof.Machine

/-! # The invariant of the state

Every write keeps `State.Inv`: one lemma per operation of the state, then one per kind of effect, then the step. -/

namespace Sys2Proof.Machine

variable {s t u : State}

/-! ## The register files -/

/-- A predicate on the registers of a file survives the write of a value that has it. -/
theorem file_set_forall {α : Type} {f : α → Bool} {v : Vector α 16} (h : ∀ i : Fin 16, f v[i] = true) (d : Fin 16)
    {x : α} (hx : f x = true) (i : Fin 16) : f (v.set d x)[i] = true := by
  by_cases hi : i = d
  · subst hi
    rwa [file_set_self]
  · rw [file_set_other _ _ hi]
    exact h i

theorem below_valid {n v : Nat} (h : v < n) : (⟨true, v⟩ : Slot Nat).below n = true := by simp [Slot.below, h]

theorem below_invalid (n : Nat) : (Slot.invalid 0).below n = true := rfl

theorem lt_of_below {n : Nat} {r : Slot Nat} (h : r.below n = true) (hv : r.valid = true) : r.value < n := by
  simpa [Slot.below, hv] using h

theorem canonicalPoint_valid {q : Point} (h : q.canonical) : (⟨true, q⟩ : Slot Point).canonicalPoint = true := by
  simp [Slot.canonicalPoint, h.1, h.2]

theorem canonicalPoint_invalid : (Slot.invalid Point.zero).canonicalPoint = true := rfl

/-! ## The Poly1305 state and the memory -/

theorem polyLegal_iff :
    s.polyLegal = true ↔ s.PH < p1305 ∧ s.PR &&& 0x0ffffffc0ffffffc0ffffffc0fffffff = s.PR ∧
      (s.PV = false → s.PH = 0 ∧ s.PR = 0 ∧ s.PS = 0) := by
  cases hv : s.PV <;> simp [State.polyLegal, hv, and_assoc]

/-- The zeroed Poly1305 state is legal (10_state.md R38). -/
theorem polyLegal_zero (h : s.PH = 0) (hr : s.PR = 0) (hs : s.PS = 0) : s.polyLegal = true := by
  refine polyLegal_iff.2 ⟨?_, ?_, fun _ => ⟨h, hr, hs⟩⟩
  · rw [h]
    decide +kernel
  · rw [hr]
    exact BitVec.zero_and

theorem memLegal_iff : s.memLegal = true ↔ s.DMEM.wf = true ∧ s.DMEM.below s.params.dmemBytes := by
  simp [State.memLegal, Memory.below]

/-- The stream loop lists no address outside its output. -/
theorem below_streamLoop {m : Memory} {n : Nat} (h : m.below n) {c a pad : Nat} {ks : List Byte}
    (hc : ks.length = 0 ∨ c + ks.length ≤ n) : (streamLoop m c a pad ks).below n := by
  have htake : ks.take pad = [] ∨ c + (ks.take pad).length ≤ n := by
    rw [← List.length_eq_zero_iff, List.length_take]
    omega
  have hdrop : ks.drop pad = [] ∨ c + pad + (ks.drop pad).length ≤ n := by
    rw [← List.length_eq_zero_iff, List.length_drop]
    omega
  exact below_xorLoop (Memory.below_writeBytes h htake) hdrop

/-! ## The status bits -/

/-- No two status bits are set together (10_state.md R49). -/
theorem legal_iff {b : Status} :
    b.legal = true ↔
      ¬(b.busy = true ∧ b.done = true) ∧ ¬(b.busy = true ∧ b.err = true) ∧ ¬(b.done = true ∧ b.err = true) := by
  simp only [Status.legal, Bool.and_eq_true, Bool.not_eq_true', ← Bool.not_eq_true, and_assoc]

/-- Clearing bits sets none. -/
theorem legal_clear {b : Status} (h : b.legal = true) (d e : Bool) :
    Status.legal { b with done := b.done && d, err := b.err && e } = true := by
  obtain ⟨hbd, hbe, hde⟩ := legal_iff.1 h
  simp only [legal_iff, Bool.and_eq_true]
  exact ⟨fun hx => hbd ⟨hx.1, hx.2.1⟩, fun hx => hbe ⟨hx.1, hx.2.1⟩, fun hx => hde ⟨hx.1.1, hx.2.1⟩⟩

namespace State.Inv

/-! ## What the operations of the state keep -/

theorem writeX (h : s.Inv) (d : XReg) (v : Word) : (s.writeX d v).Inv := { h with }

theorem writeCtrl (h : s.Inv) (c : Ctrl) : State.Inv { s with CTRL := c } := { h with }

theorem withAnswer (h : s.Inv) (a : Answer) : State.Inv { s with answer := a } := { h with }

theorem withInputs (h : s.Inv) (later : List Input) : (s.withInputs later).Inv := { h with }

theorem countDraw (h : s.Inv) : s.countDraw.Inv := { h with }

theorem writeF (h : s.Inv) (d : FReg) {v : Nat} (hv : v < p) : (s.writeF d v).Inv :=
  { h with fields := file_set_forall h.fields d (below_valid hv) }

theorem writeS (h : s.Inv) (d : SReg) {v : Nat} (hv : v < ell) : (s.writeS d v).Inv :=
  { h with scalars := file_set_forall h.scalars d (below_valid hv) }

theorem writeP (h : s.Inv) (d : PReg) {q : Point} (hq : q.canonical) : (s.writeP d q).Inv :=
  { h with points := file_set_forall h.points d (canonicalPoint_valid hq) }

theorem invalidateP (h : s.Inv) (d : PReg) : (s.invalidateP d).Inv :=
  { h with points := file_set_forall h.points d canonicalPoint_invalid }

theorem writeUnpacked (h : s.Inv) (d : PReg) (b : XReg) {y : Nat} {root : Option Nat} (hy : y < p)
    (hroot : ∀ x, root = some x → x < p) : (s.writeUnpacked d b y root).Inv := by
  cases root with
  | none => exact (h.writeX b (boolWord false)).invalidateP d
  | some x => exact (h.writeX b (boolWord true)).writeP d ⟨hroot x rfl, hy⟩

theorem writeW (h : s.Inv) (w : Vector Word 16) : (s.writeW w).Inv := { h with words := rfl }

theorem invalidateW (h : s.Inv) : s.invalidateW.Inv := { h with words := by simp [State.wordsLegal] }

theorem writePolyKey (h : s.Inv) (key : List Byte) : (s.writePoly 0 (keyR key) (keyS key)).Inv :=
  { h with poly := polyLegal_iff.2 ⟨by simp only [State.writePoly_PH]; decide +kernel, keyR_clamped key, by simp⟩ }

theorem writePH (h : s.Inv) (hv : s.PV = true) {a : Nat} (ha : a < p1305) : (s.writePH a).Inv := by
  obtain ⟨-, hr, -⟩ := polyLegal_iff.1 h.poly
  exact { h with poly := polyLegal_iff.2 ⟨ha, hr, by simp [hv]⟩ }

theorem invalidatePoly (h : s.Inv) : s.invalidatePoly.Inv := { h with poly := polyLegal_zero rfl rfl rfl }

theorem withMem (h : s.Inv) {m : Memory} (hwf : m.wf = true) (hb : m.below s.params.dmemBytes) : (s.withMem m).Inv :=
  { h with mem := memLegal_iff.2 ⟨hwf, hb⟩ }

theorem writeMem (h : s.Inv) {q : Nat} {bs : List Byte} (hq : s.inRange q bs.length = true) :
    (s.writeMem q bs).Inv := by
  obtain ⟨hwf, hb⟩ := memLegal_iff.1 h.mem
  refine h.withMem (Memory.wf_writeBytes hwf q bs) (Memory.below_writeBytes hb ?_)
  rwa [← List.length_eq_zero_iff, ← State.inRange_iff]

theorem streamLoop (h : s.Inv) {q : Nat} (m pad : Nat) {ks : List Byte} (hq : s.inRange q ks.length = true) :
    (s.withMem (Machine.streamLoop s.DMEM q m pad ks)).Inv := by
  obtain ⟨hwf, hb⟩ := memLegal_iff.1 h.mem
  exact h.withMem (wf_streamLoop hwf _ _ _ _) (below_streamLoop hb (State.inRange_iff.1 hq))

theorem wipe (h : s.Inv) : s.wipe.Inv :=
  { h with
    fields := fun i => by rw [wipe_F, file_replicate]; exact below_invalid _
    scalars := fun i => by rw [wipe_S, file_replicate]; exact below_invalid _
    points := fun i => by rw [wipe_P, file_replicate]; exact canonicalPoint_invalid
    words := by simp [State.wordsLegal]
    poly := polyLegal_zero rfl rfl rfl
    mem := memLegal_iff.2 ⟨Memory.wf_wiped, by simp [Memory.below, Memory.wiped]⟩ }

/-- A reset, whatever the legal parameters (70_reset_and_hazards.md R381, R382). -/
theorem afterReset {c : Params} (hc : c.wf = true) (k : Nat) (later : List Input) :
    (State.afterReset c k later).Inv where
  params := hc
  status := rfl
  record := rfl
  fields i := by simp only [State.afterReset, file_replicate]; exact below_invalid _
  scalars i := by simp only [State.afterReset, file_replicate]; exact below_invalid _
  points i := by simp only [State.afterReset, file_replicate]; exact canonicalPoint_invalid
  words := by simp [State.wordsLegal, State.afterReset]
  poly := polyLegal_zero rfl rfl rfl
  mem := memLegal_iff.2 ⟨rfl, by simp [Memory.below, State.afterReset]⟩

/-- The effect of a completing command. -/
theorem effect {k : Touch} (h : s.Inv) (he : Effect s k u) : u.Inv := by
  cases he with
  | none => exact h
  | truth d b => exact h.writeX d _
  | field d hv => exact h.writeF d hv
  | fieldCopy d a ha => exact h.writeF d (lt_of_below (h.fields a) ha)
  | scalar d hv => exact h.writeS d hv
  | point d hq => exact h.writeP d hq
  | unpacked d b hy hroot => exact h.writeUnpacked d b hy hroot
  | words w => exact h.writeW w
  | polyKey key => exact h.writePolyKey key
  | polyAcc hv ha => exact h.writePH hv ha
  | mem hq hn => exact h.writeMem (hn ▸ hq)
  | memWords hq hn => exact (h.writeMem (hn ▸ hq)).invalidateW
  | memPoly hq hn => exact (h.writeMem (hn ▸ hq)).invalidatePoly
  | truthPoly d b => exact (h.writeX d _).invalidatePoly
  | stream m pad hq hn => exact (h.streamLoop m pad (hn ▸ hq)).invalidateW

/-! ## The status bits and the fault record -/

/-- While BUSY = 1, DONE and ERR are 0 (10_state.md R49). -/
theorem of_busy (h : s.Inv) (hb : s.STATUS.busy = true) : s.STATUS.done = false ∧ s.STATUS.err = false := by
  obtain ⟨hbd, hbe, -⟩ := legal_iff.1 h.status
  simpa [hb] using And.intro hbd hbe

/-- A command completes only while it runs, when ERR = 0. -/
theorem complete (h : s.Inv) (he : s.STATUS.err = false) : s.complete.Inv :=
  { h with status := by simp [Status.legal, he] }

/-- A command faults only while it runs, when DONE = 0. -/
theorem takeFault (h : s.Inv) (hd : s.STATUS.done = false) (c : Cause) : (s.takeFault c).Inv :=
  { h with
    status := by simp [Status.legal, hd]
    record := by simp [State.recordLegal, code_range c] }

theorem accept (h : s.Inv) (he : s.STATUS.err = false) (w : Word) : (s.accept w).Inv :=
  { h with status := by simp [Status.legal, he] }

theorem writeCmd (h : s.Inv) (w : Word) : (s.writeCmd w).Inv := by
  unfold State.writeCmd
  split
  · exact h
  · exact h.accept (Bool.not_eq_true _ ▸ ‹_›) w

/-- CLR only clears status bits, and ERR together with its record (60_exceptions.md R355). -/
theorem writeClr (h : s.Inv) (v : Word) : (s.writeClr v).Inv := by
  have hrecord := h.record
  refine { h with status := legal_clear h.status _ _, record := ?_ }
  cases hv : v.getLsbD 2 with
  | true => simp [State.recordLegal, hv]
  | false =>
    simp only [State.recordLegal, State.writeClr_STATUS, State.writeClr_CAUSE, State.writeClr_ERRCMD, hv]
    simpa [State.recordLegal] using hrecord

/-! ## The command in CUR -/

/-- A command, run while BUSY = 1. -/
theorem exec {i : Instr} (h : s.Inv) (hb : s.STATUS.busy = true) (hn : Machine.exec i s = .next t) : t.Inv := by
  obtain ⟨hd, he⟩ := h.of_busy hb
  by_cases hi : i = .wipe
  · subst hi
    cases hn
    exact h.wipe.complete he
  · rcases exec_cases hi hn with ⟨u, hu, rfl⟩ | ⟨c, rfl⟩
    · exact (h.effect hu).complete (by rw [hu.status, he])
    · exact h.takeFault hd c

theorem runCurrent (h : s.Inv) (hb : s.STATUS.busy = true) (hn : Machine.runCurrent s = .next t) : t.Inv := by
  cases hdec : decode s.CUR with
  | ok i => exact h.exec hb (runCurrent_ok hdec ▸ hn)
  | error e =>
    rw [runCurrent_error hdec] at hn
    cases hn
    exact h.takeFault (h.of_busy hb).1 _

end State.Inv

/-! ## Host accesses and the step -/

/-- What a write to a register offset does where there is one, said once (10_state.md R46; 20_memory.md R79, R80). -/
theorem writeReg_cases {offset : Nat} {v : Word} (h : s.writeReg offset v = some t) :
    t = s ∨ t = { s with CTRL := Ctrl.ofWord v } ∨ t = s.writeClr v ∨ t = s.writeCmd v ∨ ∃ i, t = s.writeX i v := by
  unfold State.writeReg at h
  split at h
  case h_9 =>
    obtain ⟨i, -, rfl⟩ := Option.map_eq_some_iff.1 h
    exact .inr (.inr (.inr (.inr ⟨i, rfl⟩)))
  all_goals
    cases h
    simp

/-- What a host write does if it is no bus error, said once (20_memory.md R73, R76). -/
theorem hostWrite_cases {width : Width} {offset : Nat} {v : Word} (h : s.hostWrite width offset v = some t) :
    s.writeReg offset v = some t ∨
      ∃ a, a + width.bytes ≤ s.params.dmemBytes ∧ t = s.writeMem a (leBytes width.bytes v.toNat) := by
  unfold State.hostWrite at h
  split_ifs at h with _ _ _ hwin
  · exact .inl h
  · cases h
    simp only [State.inWindow, Bool.and_eq_true, decide_eq_true_eq] at hwin
    exact .inr ⟨_, hwin.2, rfl⟩

theorem State.Inv.writeReg (h : s.Inv) {offset : Nat} {v : Word} (hw : s.writeReg offset v = some t) : t.Inv := by
  rcases writeReg_cases hw with rfl | rfl | rfl | rfl | ⟨i, rfl⟩
  · exact h
  · exact h.writeCtrl _
  · exact h.writeClr v
  · exact h.writeCmd v
  · exact h.writeX i v

theorem State.Inv.hostWrite (h : s.Inv) {width : Width} {offset : Nat} {v : Word}
    (hw : s.hostWrite width offset v = some t) : t.Inv := by
  rcases hostWrite_cases hw with hr | ⟨a, ha, rfl⟩
  · exact h.writeReg hr
  · exact h.writeMem (State.inRange_iff.2 (.inr (by rwa [leBytes_length])))

theorem State.Inv.perform (h : s.Inv) (a : Access) : (s.perform a).Inv := by
  cases a with
  | read width offset =>
    cases hr : s.hostRead width offset with
    | some v => exact perform_read hr ▸ h.withAnswer _
    | none => exact perform_read_error hr ▸ h.withAnswer _
  | write width offset v =>
    cases hw : s.hostWrite width offset v with
    | some t => exact perform_write hw ▸ (h.hostWrite hw).withAnswer _
    | none => exact perform_write_error hw ▸ h.withAnswer _

/-- Settles O16: by the cases of a step, each of which keeps the invariant. -/
theorem stepKeepsInv : Obligations.StepKeepsInv := by
  intro s t h hs
  rcases step_next hs with ⟨later, -, rfl⟩ | ⟨-, -, rfl⟩ | ⟨-, a, later, -, rfl⟩ | ⟨-, a, later, -, -, rfl⟩ |
    ⟨hb, hr | hr⟩
  · exact .afterReset h.params _ _
  · exact h
  · exact (h.withInputs later).perform a
  · exact (h.withInputs later).countDraw.perform a
  · exact h.runCurrent hb hr
  · exact h.countDraw.runCurrent hb hr

end Sys2Proof.Machine

/-! # Control registers and command words -/

namespace Sys2Proof.Machine

variable {s t u : State}

/-! ## Commands and CTRL -/

/-- The state `s` with another `CTRL`. -/
def State.withCtrl (s : State) (c : Ctrl) : State := { s with CTRL := c }

/-- A computation on the state that neither reads CTRL nor writes it: another CTRL is carried through. -/
def CtrlBlind (r : State → Except Cause State) : Prop :=
  ∀ s c, r (s.withCtrl c) = (r s).map (·.withCtrl c)

/-- An operand read from the same registers is the same, so only what follows it can tell the two runs apart. -/
theorem map_bind_congr {α : Type} {x : Except Cause α} {g g' : α → Except Cause State} {f : State → State}
    (h : ∀ a, g' a = (g a).map f) : (x >>= g') = (x >>= g).map f := by
  cases x with
  | ok a => exact h a
  | error c => rfl

/-- Every meaning is a computation that is blind to CTRL, ended by the one operation that ends commands. -/
theorem exec_ctrlBlind (i : Instr) : ∃ r, (∀ s, exec i s = s.finish (r s)) ∧ CtrlBlind r := by
  cases i with
  | nop => exact ⟨.ok, fun _ => rfl, fun _ _ => rfl⟩
  | wipe => exact ⟨fun s => .ok s.wipe, fun _ => rfl, fun _ _ => rfl⟩
  | _ =>
    refine ⟨fun s => _, fun s => rfl, fun s c => ?_⟩
    repeat' refine map_bind_congr fun _ => ?_
    rfl

/-- A command run under another CTRL ends in the same way, under that CTRL. -/
theorem exec_withCtrl {i : Instr} (h : exec i s = .next t) (c : Ctrl) :
    exec i (s.withCtrl c) = .next (t.withCtrl c) := by
  obtain ⟨r, hr, hblind⟩ := exec_ctrlBlind i
  rw [hr, State.finish_next] at h
  rw [hr, hblind]
  rcases h with ⟨u, hu, rfl⟩ | ⟨e, he, rfl⟩
  · rw [hu]
    rfl
  · rw [he]
    rfl

/-- A command leaves CTRL as it is, whether it completes or faults. -/
theorem exec_ctrl {i : Instr} (h : exec i s = .next t) : t.CTRL = s.CTRL := by
  rcases exec_next h with ⟨hc, -⟩ | ⟨c, rfl⟩
  · exact hc.ctrl
  · rfl

/-- A command always leads to a next state (10_state.md R52). -/
theorem exec_total (i : Instr) (s : State) : ∃ t, exec i s = .next t := by
  obtain ⟨r, hr⟩ := exec_finish i s
  cases r with
  | ok u => exact ⟨_, hr⟩
  | error c => exact ⟨_, hr⟩

/-- Settles O23: every operand form and every write is the same under another CTRL. -/
theorem commandsIgnoreCtrl : Obligations.CommandsIgnoreCtrl := by
  intro i s c
  obtain ⟨t, ht⟩ := exec_total i s
  exact ⟨t, ht, exec_ctrl ht, exec_withCtrl ht c⟩

/-! ## Commands and the X registers -/

/-- A write to a file changes no register but the one written, which holds the value written. -/
theorem file_set_changed {α : Type} {v : Vector α 16} {d j : Fin 16} {x : α} (h : (v.set d x)[j] ≠ v[j]) :
    j = d ∧ (v.set d x)[j] = x := by
  by_cases hjd : j = d
  · subst hjd
    exact ⟨rfl, file_set_self _ _ _⟩
  · exact absurd (file_set_other _ _ hjd) h

/-- An effect changes an X register only to a truth value, and only one that it may touch. -/
theorem Effect.truth_of_X_ne {k : Touch} {j : XReg} (h : Effect s k u) (hj : u.X[j] ≠ s.X[j]) :
    j ∈ k.x ∧ ∃ b, u.X[j] = boolWord b := by
  cases h with
  | truth d b | truthPoly d b =>
    obtain ⟨rfl, hv⟩ := file_set_changed hj
    exact ⟨List.mem_singleton_self _, b, hv⟩
  | unpacked d b hy hroot =>
    obtain ⟨rfl, hv⟩ := file_set_changed hj
    exact ⟨List.mem_singleton_self _, _, hv⟩
  | none | field | fieldCopy | scalar | point | words | polyKey | polyAcc | mem | memWords | memPoly | stream =>
    exact absurd rfl hj

theorem boolWord_eq (b : Bool) : boolWord b = 0 ∨ boolWord b = 1 := by cases b <;> decide

/-- The commands that may touch an X register are the four predicate commands (10_state.md R22). -/
theorem mem_touched_x {i : Instr} {j : XReg} (h : j ∈ (s.touched i).x) :
    (∃ a b, i = .feIseq j a b) ∨ (∃ a, i = .feParity j a) ∨ (∃ d a, i = .geUnpackneg d a j) ∨
      ∃ a b c e, i = .plVerify j a b c e := by
  cases i <;> simp_all [State.touched]

/-- Settles O24: by the one write of the command's effect. -/
theorem commandsWriteOnlyTruthValuesToX : Obligations.CommandsWriteOnlyTruthValuesToX := by
  intro i s t j hi h hj
  rcases exec_cases hi h with ⟨u, hu, rfl⟩ | ⟨c, rfl⟩
  · obtain ⟨hmem, b, hb⟩ := hu.truth_of_X_ne hj
    exact ⟨hb ▸ boolWord_eq b, mem_touched_x hmem⟩
  · exact absurd rfl hj

/-! ## A write to CMD -/

/-- What the word in CUR ends in (10_state.md R52). -/
theorem runCurrent_ends (s : State) :
    ∃ t, runCurrent s = .next t ∧ t.inputs = s.inputs ∧
      ((t.STATUS = { busy := false, done := true, err := s.STATUS.err } ∧ t.CAUSE = s.CAUSE ∧ t.ERRCMD = s.ERRCMD) ∨
        ∃ c, t = s.faulted c ∧ 1 ≤ c.toNat ∧ c.toNat ≤ 6) := by
  obtain ⟨t, ht, -⟩ := runCurrent_next s
  refine ⟨t, ht, ?_⟩
  rcases runCurrent_control ht with ⟨hc, hs⟩ | ⟨c, rfl⟩
  · exact ⟨hc.inputs, .inl ⟨hs, hc.cause, hc.errcmd⟩⟩
  · exact ⟨rfl, .inr ⟨c.code, takeFault_eq s c, code_range c⟩⟩

/-- The step of a block that is not busy, with a write to a register offset at the port. -/
theorem step_writeReg {offset : Nat} {v : Word} {later : List Input} (hb : s.STATUS.busy = false)
    (h : s.inputs = .access (.write .word offset v) :: later) (hlt : offset < 0x10000) (h4 : offset % 4 = 0)
    (hw : (s.withInputs later).writeReg offset v = some u) : step s = .next { u with answer := .done } := by
  rw [step_access hb h, perform_write ((hostWrite_reg hlt h4).trans hw)]

/-- A write to CMD is dropped while ERR = 1 (10_state.md R52, case (b)). -/
theorem writeCmd_dropped {w : Word} (h : s.STATUS.err = true) : s.writeCmd w = s := if_pos h

/-- A write to CMD is accepted while ERR = 0 (10_state.md R52, case (c)). -/
theorem writeCmd_accepted {w : Word} (h : s.STATUS.err = false) : s.writeCmd w = s.accept w := by
  simp [State.writeCmd, h]

/-- Settles O7: the three cases of 10_state.md R52, each by its step. -/
theorem commandWriteIsHeldDroppedOrAccepted : Obligations.CommandWriteIsHeldDroppedOrAccepted := by
  intro s w later h
  refine ⟨fun hb => ?_, fun hb he => ?_, fun hb he => ?_⟩
  · rw [step_held hb h rfl]
    exact runCurrent_ends s
  · have hw : (s.withInputs later).writeReg 0x01C w = some (s.withInputs later) :=
      congrArg some (writeCmd_dropped he)
    exact step_writeReg hb h (by decide) (by decide) hw
  · have hw : (s.withInputs later).writeReg 0x01C w = some ((s.withInputs later).accept w) :=
      congrArg some (writeCmd_accepted he)
    rw [step_writeReg hb h (by decide) (by decide) hw]
    simp [State.accept, State.withInputs, he]

/-! ## What the control registers read as -/

/-- CTRL reads as its two enables (10_state.md R48). -/
theorem Ctrl.word_spec (c : Ctrl) : c.word.toNat < 4 ∧ c.word.getLsbD 0 = c.ieDone ∧ c.word.getLsbD 1 = c.ieErr := by
  obtain ⟨d, e⟩ := c
  cases d <;> cases e <;> decide

/-- STATUS reads as its three bits (10_state.md R49). -/
theorem Status.word_spec (t : Status) :
    t.word.toNat < 8 ∧ t.word.getLsbD 0 = t.busy ∧ t.word.getLsbD 1 = t.done ∧ t.word.getLsbD 2 = t.err := by
  obtain ⟨b, d, e⟩ := t
  cases b <;> cases d <;> cases e <;> decide

/-- A write to CTRL stores bits 1:0 and nothing else (10_state.md R48). -/
theorem Ctrl.word_ofWord (v : Word) : (Ctrl.ofWord v).word = v &&& 3 := by
  apply BitVec.eq_of_toNat_eq
  have h3 : (v &&& 3).toNat = v.toNat % 4 := Nat.and_two_pow_sub_one_eq_mod v.toNat 2
  have h0 : v.getLsbD 0 = decide (v.toNat % 2 = 1) := by simp [BitVec.getLsbD, Nat.testBit_zero]
  have h1 : v.getLsbD 1 = decide (v.toNat / 2 % 2 = 1) := by simp [BitVec.getLsbD, Nat.testBit_succ, Nat.testBit_zero]
  rw [h3, Ctrl.word, Ctrl.ofWord, h0, h1]
  by_cases hd : v.toNat % 2 = 1 <;> by_cases he : v.toNat / 2 % 2 = 1 <;> simp [boolWord, hd, he] <;> omega

/-- CFG reads as DMEM_BYTES, which fits a word (00_scope.md R9). -/
theorem cfg_toNat (h : s.params.wf = true) : (BitVec.ofNat 32 s.params.dmemBytes).toNat = s.params.dmemBytes := by
  simp only [Params.wf, Bool.and_eq_true, decide_eq_true_eq] at h
  rw [BitVec.toNat_ofNat]
  omega

/-- The X registers stand at the offsets from 0x040 (20_memory.md R80). -/
theorem readReg_x (s : State) (i : XReg) : s.readReg (0x040 + 4 * i.val) = some s.X[i] := by
  unfold State.readReg
  split
  case h_9 => rw [xRegAt_of_index]; rfl
  all_goals omega

theorem hostRead_x (s : State) (i : XReg) : s.hostRead .word (0x040 + 4 * i.val) = some s.X[i] := by
  rw [hostRead_reg (by omega) (by omega), readReg_x]

/-- The interrupt output (60_exceptions.md R352). -/
theorem irq_iff (s : State) :
    s.irq = true ↔
      (s.STATUS.done = true ∧ s.CTRL.ieDone = true) ∨ (s.STATUS.err = true ∧ s.CTRL.ieErr = true) := by
  simp [State.irq]

/-- The step of a block that is not busy, with a defined read at the port. -/
theorem step_read {width : Width} {offset : Nat} {v : Word} {later : List Input} (hb : s.STATUS.busy = false)
    (h : s.inputs = .access (.read width offset) :: later) (hr : s.hostRead width offset = some v) :
    step s = .next { s with inputs := later, answer := .data v } := by
  have hr' : (s.withInputs later).hostRead width offset = some v := hr
  rw [step_access hb h, perform_read hr']
  rfl

/-- Settles O13: register by register, then the two steps. -/
theorem controlRegistersReadAndWrite : Obligations.ControlRegistersReadAndWrite := by
  intro s hwf
  have read {offset : Nat} (hlt : offset < 0x10000) (h4 : offset % 4 = 0) :
      s.hostRead .word offset = s.readReg offset := hostRead_reg hlt h4
  refine ⟨read (by decide) (by decide), ⟨_, read (by decide) (by decide), cfg_toNat hwf⟩,
    ⟨_, read (by decide) (by decide), s.CTRL.word_spec⟩, ⟨_, read (by decide) (by decide), s.STATUS.word_spec⟩,
    read (by decide) (by decide), read (by decide) (by decide), read (by decide) (by decide),
    read (by decide) (by decide), hostRead_x s, fun v => ⟨_, hostWrite_reg (by decide) (by decide), rfl, ?_⟩, irq_iff s,
    fun hb => ⟨fun offset v later h hr => step_read hb h hr, fun v later h => ?_⟩⟩
  · rw [hostRead_reg (by decide) (by decide)]
    exact congrArg some (Ctrl.word_ofWord v)
  · exact step_writeReg hb h (by decide) (by decide) rfl

end Sys2Proof.Machine

/-! # The frame of a command

What each kind of effect leaves alone: one lemma per shape of write, then one case per effect. -/

namespace Sys2Proof.Machine

variable {s t u : State} {k : Touch}

/-- A write to the one register that a file may have written leaves the others. -/
theorem file_set_frame {α : Type} (v : Vector α 16) {d : Fin 16} (x : α) (j : Fin 16) (h : j ∉ [d]) :
    (v.set d x)[j] = v[j] :=
  file_set_other v x (mt List.mem_singleton.2 h)

/-- A byte string stored leaves the bytes outside it. -/
theorem writeBytes_frame (m : Memory) (q : Nat) {n : Nat} {bs : List Byte} (hn : bs.length = n) (a : Nat)
    (h : ¬(q ≤ a ∧ a < q + n)) : (m.writeBytes q bs).read a = m.read a :=
  Memory.read_writeBytes_other m q bs a (hn ▸ h)

/-- The stream loop leaves the bytes outside its output (47_stream.md R280). -/
theorem streamLoop_frame (m : Memory) (q c pad : Nat) {n : Nat} {ks : List Byte} (hn : ks.length = n) (a : Nat)
    (h : ¬(q ≤ a ∧ a < q + n)) : (streamLoop m q c pad ks).read a = m.read a :=
  read_streamLoop_other m q c pad ks a (hn ▸ h)

theorem Frame.refl (k : Touch) (s : State) : Frame k s s where
  xregs _ _ := rfl
  fregs _ _ := rfl
  sregs _ _ := rfl
  pregs _ _ := rfl
  words _ := ⟨rfl, rfl⟩
  poly _ := ⟨rfl, rfl, rfl, rfl⟩
  mem _ _ := rfl

/-- Completion changes STATUS alone, which is no part of a frame. -/
theorem Frame.complete (h : Frame k s u) : Frame k s u.complete := { h with }

/-- An effect changes nothing but what it may touch. -/
theorem Effect.frame (h : Effect s k u) : Frame k s u := by
  have base := Frame.refl k s
  cases h with
  | none => exact base
  | truth d b => exact { base with xregs := file_set_frame s.X _ }
  | field d hv => exact { base with fregs := file_set_frame s.F _ }
  | fieldCopy d a ha => exact { base with fregs := file_set_frame s.F _ }
  | scalar d hv => exact { base with sregs := file_set_frame s.S _ }
  | point d hq => exact { base with pregs := file_set_frame s.P _ }
  | unpacked d b hy hroot =>
    exact { base with xregs := file_set_frame s.X _, pregs := file_set_frame s.P _ }
  | words w => exact { base with words := nofun }
  | polyKey key => exact { base with poly := nofun }
  | polyAcc hv hh => exact { base with poly := nofun }
  | mem hq hn => exact { base with mem := writeBytes_frame s.DMEM _ hn }
  | memWords hq hn => exact { base with words := nofun, mem := writeBytes_frame s.DMEM _ hn }
  | memPoly hq hn => exact { base with poly := nofun, mem := writeBytes_frame s.DMEM _ hn }
  | truthPoly d b => exact { base with xregs := file_set_frame s.X _, poly := nofun }
  | stream m pad hq hn => exact { base with words := nofun, mem := streamLoop_frame s.DMEM _ m pad hn }

/-- A command but WIPE, completed or faulted, changes no register and no byte but those it may touch. -/
theorem exec_frame {i : Instr} (hi : i ≠ .wipe) (h : exec i s = .next t) : Frame (s.touched i) s t := by
  rcases exec_cases hi h with ⟨u, hu, rfl⟩ | ⟨c, rfl⟩
  · exact hu.frame.complete
  · exact { Frame.refl _ s with }

/-- Settles O22: the data by the command's one effect, the control registers by how it ends. -/
theorem frameOfEveryCommand : Obligations.FrameOfEveryCommand := by
  intro i s t hi h
  refine ⟨exec_frame hi h, ?_⟩
  rcases exec_next h with ⟨hc, hs⟩ | ⟨c, rfl⟩
  · exact ⟨hc.params, hc.ctrl, hc.cur, hc.inputs, hc.answer, hc.draws, .inl ⟨hs, hc.cause, hc.errcmd⟩⟩
  · exact ⟨rfl, rfl, rfl, rfl, rfl, rfl, .inr ⟨c.code, takeFault_eq s c, code_range c⟩⟩

end Sys2Proof.Machine

/-! # The slave port

What a step answers the host: bus errors, register reads and writes, and the DMEM window. -/

namespace Sys2Proof.Machine

variable {s t : State} {a : Access} {width : Width} {offset : Nat} {later : List Input}

/-! ## Accesses while a command runs -/

/-- The accesses that are never held are the reads of STATUS, ID and CFG (20_memory.md R83). -/
theorem neverHeld_iff :
    a.neverHeld = true ↔ a = .read .word 0x00C ∨ a = .read .word 0x000 ∨ a = .read .word 0x004 := by
  cases a with
  | write width offset v => simp [Access.neverHeld]
  | read width offset => cases width <;> simp [Access.neverHeld, or_assoc]

/-- While the word in CUR runs, nothing is taken from the port and nothing is answered. -/
theorem runCurrent_port (s : State) :
    ∃ t, runCurrent s = .next t ∧ t.inputs = s.inputs ∧ t.answer = s.answer ∧ t.STATUS.busy = false := by
  obtain ⟨t, ht, hb⟩ := runCurrent_next s
  refine ⟨t, ht, ?_⟩
  rcases runCurrent_control ht with ⟨hc, -⟩ | ⟨c, rfl⟩
  · exact ⟨hc.inputs, hc.answer, hb⟩
  · exact ⟨rfl, rfl, hb⟩

/-- A read of STATUS is answered with the status bits of the moment. -/
theorem hostRead_status (s : State) : s.hostRead .word 0x00C = some s.STATUS.word :=
  hostRead_reg (by decide) (by decide)

/-- Settles O8: a held access by the run of the command and the step after it, a read of STATUS by the free value. -/
theorem heldAccessesWait : Obligations.HeldAccessesWait := by
  intro s a later hb h
  refine ⟨fun hstatus hid hcfg => ?_, ?_⟩
  · have ha : a.neverHeld = false := by
      rw [← Bool.not_eq_true, neverHeld_iff]
      simp [hstatus, hid, hcfg]
    obtain ⟨t, ht, hi, hans, htb⟩ := runCurrent_port s
    exact ⟨t, (step_held hb h ha).trans ht, hi, hans, htb, step_access htb (hi.trans h)⟩
  · rintro rfl
    cases hc : Config.readServedWhileBusy s.draws with
    | true =>
      obtain ⟨-, hbusy, -⟩ := s.STATUS.word_spec
      exact ⟨_, step_served hb h rfl hc, s.STATUS.word, perform_read (hostRead_status _), hbusy.trans hb⟩
    | false =>
      obtain ⟨t, ht, hi, hans, htb⟩ := runCurrent_port s.countDraw
      exact ⟨t, (step_unserved hb h rfl hc).trans ht, hi, hans, htb⟩

/-! ## Bus errors -/

/-- An access of either kind is defined exactly where the other is (20_memory.md R76). -/
theorem hostWrite_eq_none_iff {v : Word} : s.hostWrite width offset v = none ↔ s.hostRead width offset = none := by
  unfold State.hostWrite State.hostRead
  split_ifs
  case pos =>
    unfold State.writeReg State.readReg
    split <;> simp
  all_goals simp

/-- The step of a block that is not busy, with an access at the port that is not defined. -/
theorem step_busError {v : Word} (hb : s.STATUS.busy = false) (h : s.inputs = .access a :: later)
    (ha : a = .read width offset ∨ a = .write width offset v) (hr : s.hostRead width offset = none) :
    step s = .next { s with inputs := later, answer := .busError } := by
  have hr' : (s.withInputs later).hostRead width offset = none := hr
  rw [step_access hb h]
  rcases ha with rfl | rfl
  · rw [perform_read_error hr']
    rfl
  · rw [perform_write_error (hostWrite_eq_none_iff.2 hr')]
    rfl

/-- No access of any width is defined at a register offset that the map leaves out (20_memory.md R76). -/
theorem hostRead_unmapped (h : (0x020 ≤ offset ∧ offset < 0x040) ∨ (0x080 ≤ offset ∧ offset < 0x10000)) :
    s.hostRead width offset = none := by
  have hlt : offset < 0x10000 := by omega
  by_cases hw : width = .word
  · subst hw
    by_cases h4 : offset % 4 = 0
    · rw [hostRead_reg hlt h4, readReg_undefined (by omega)]
    · exact hostRead_misaligned h4
  · exact hostRead_narrow hlt hw

theorem Width.bytes_pos (width : Width) : 0 < width.bytes := by cases width <;> decide

/-- Settles O11: each kind of access named by 20_memory.md R76 is undefined. -/
theorem busErrorsChangeNothing : Obligations.BusErrorsChangeNothing := by
  intro s width offset v a later hb h ha hbad
  refine step_busError hb h ha ?_
  rcases hbad with ⟨rfl, hodd⟩ | ⟨rfl, hodd⟩ | ⟨hw, hlt⟩ | hgap | hgap | hend
  · exact hostRead_misaligned hodd
  · exact hostRead_misaligned hodd
  · exact hostRead_narrow hlt hw
  · exact hostRead_unmapped (.inl hgap)
  · exact hostRead_unmapped (.inr hgap)
  · have := width.bytes_pos
    exact hostRead_outside (by omega) (by omega)

/-! ## Registers -/

/-- Writes to ID, CFG, STATUS, CAUSE and ERRCMD are ignored (20_memory.md R79). -/
theorem writeReg_readOnly {v : Word} (h : offset ∈ [0x000, 0x004, 0x00C, 0x010, 0x014]) :
    s.writeReg offset v = some s := by
  simp only [List.mem_cons, List.not_mem_nil, or_false] at h
  rcases h with rfl | rfl | rfl | rfl | rfl <;> rfl

theorem readOnly_aligned (h : offset ∈ [0x000, 0x004, 0x00C, 0x010, 0x014]) : offset < 0x10000 ∧ offset % 4 = 0 := by
  revert offset
  decide

theorem writeReg_x (s : State) (i : XReg) (v : Word) : s.writeReg (0x040 + 4 * i.val) v = some (s.writeX i v) := by
  unfold State.writeReg
  split
  case h_9 => rw [xRegAt_of_index]; rfl
  all_goals omega

/-! ## The DMEM window -/

/-- The step of a block that is not busy, with an aligned read inside the window at the port. -/
theorem step_readWindow {x : Nat} (hb : s.STATUS.busy = false)
    (h : s.inputs = .access (.read width (0x10000 + x)) :: later) (ha : x % width.bytes = 0)
    (hx : x + width.bytes ≤ s.params.dmemBytes) :
    step s = .next { s with
      inputs := later
      answer := .data (BitVec.ofNat 32 (leVal (s.DMEM.readBytes x width.bytes))) } :=
  step_read hb h (hostRead_window ha hx)

/-- The step of a block that is not busy, with an aligned write inside the window at the port. -/
theorem step_writeWindow {x : Nat} {v : Word} (hb : s.STATUS.busy = false)
    (h : s.inputs = .access (.write width (0x10000 + x) v) :: later) (ha : x % width.bytes = 0)
    (hx : x + width.bytes ≤ s.params.dmemBytes) :
    step s = .next { s with
      DMEM := s.DMEM.writeBytes x (leBytes width.bytes v.toNat)
      inputs := later
      answer := .done } := by
  have hw : (s.withInputs later).hostWrite width (0x10000 + x) v = _ := hostWrite_window ha hx
  rw [step_access hb h, perform_write hw]
  rfl

/-- A byte write stores the low byte of its data. -/
theorem writeBytes_lowByte (m : Memory) (x : Nat) (v : Word) :
    m.writeBytes x (leBytes Width.byte.bytes v.toNat) = m.write x (v.setWidth 8) := by
  simp [Width.bytes, leBytes, Memory.writeBytes]

/-- A byte read after a byte write is answered with the low byte of the data written (log 10). -/
theorem readBytes_lowByte (m : Memory) (x : Nat) (v : Word) :
    BitVec.ofNat 32 (leVal ((m.write x (v.setWidth 8)).readBytes x Width.byte.bytes)) = v &&& 0xFF := by
  have hmask : (v &&& 0xFF).toNat = v.toNat % 256 := Nat.and_two_pow_sub_one_eq_mod v.toNat 8
  apply BitVec.eq_of_toNat_eq
  simp only [Width.bytes, Memory.readBytes, Memory.read_write_same, leVal_cons, leVal_nil, BitVec.toNat_ofNat,
    BitVec.toNat_setWidth, hmask]
  omega

/-- Settles O9: a read by `step_read`, a read-only register by `writeReg_readOnly`, and the two kinds of storage by a write
step followed by a read step. -/
theorem hostReadsChangeNothing : Obligations.HostReadsChangeNothing := by
  intro s hb
  refine ⟨fun width offset later h => ⟨fun v hr => step_read hb h hr, step_busError (v := 0) hb h (.inl rfl)⟩,
    fun offset v later h hro => ?_, fun i v later h => ?_, fun a v later ha h => ?_⟩
  · obtain ⟨hlt, h4⟩ := readOnly_aligned hro
    exact step_writeReg hb h hlt h4 (writeReg_readOnly hro)
  · refine ⟨_, step_writeReg hb h (by omega) (by omega) (writeReg_x _ i v), ?_⟩
    exact step_read hb rfl ((hostRead_x _ i).trans (congrArg some (file_set_self s.X i v)))
  · have halign : a % Width.byte.bytes = 0 := Nat.mod_one a
    have hwrite := step_writeWindow hb h halign ha
    rw [writeBytes_lowByte] at hwrite
    refine ⟨_, _, hwrite, step_readWindow hb rfl halign ha, ?_⟩
    simp only [readBytes_lowByte, true_and]
    exact Memory.read_write s.DMEM a (v.setWidth 8)

/-- Byte `i` of the value of a string of DMEM, and zero above its last byte. -/
theorem leVal_readBytes_digit (m : Memory) (x n i : Nat) :
    leVal (m.readBytes x n) / 256 ^ i % 256 = if i < n then (m.read (x + i)).toNat else 0 := by
  induction n generalizing x i with
  | zero => simp [Memory.readBytes]
  | succ n ih =>
    have hb := (m.read x).isLt
    rw [Memory.readBytes, leVal_cons]
    cases i with
    | zero =>
      simp only [pow_zero, Nat.div_one, Nat.zero_lt_succ, if_true, Nat.add_zero]
      omega
    | succ i =>
      have hdiv : ((m.read x).toNat + 256 * leVal (m.readBytes (x + 1) n)) / 256 = leVal (m.readBytes (x + 1) n) := by
        omega
      rw [pow_succ', ← Nat.div_div_eq_div_mul, hdiv, ih]
      simp only [Nat.add_lt_add_iff_right, Nat.add_assoc, Nat.add_comm 1 i]

/-- The data of a read in the window fits the 32-bit word that answers it. -/
theorem leVal_readBytes_lt (m : Memory) (x : Nat) (width : Width) : leVal (m.readBytes x width.bytes) < 2 ^ 32 := by
  have hlt := leVal_lt (m.readBytes x width.bytes)
  rw [Memory.readBytes_length] at hlt
  have hle : 256 ^ width.bytes ≤ 2 ^ 32 := by cases width <;> decide
  exact hlt.trans_le hle

/-- The number of bytes that goes with a width (20_memory.md R73). -/
theorem bytes_of_width {n : Nat} (h : width = .byte ∧ n = 1 ∨ width = .half ∧ n = 2 ∨ width = .word ∧ n = 4) :
    n = width.bytes := by
  rcases h with ⟨rfl, rfl⟩ | ⟨rfl, rfl⟩ | ⟨rfl, rfl⟩ <;> rfl

/-- Settles O12: byte by byte from the two steps of the window; a narrow access to a register is undefined. -/
theorem windowIsLittleEndian : Obligations.WindowIsLittleEndian := by
  refine ⟨fun s width a n later hb hn halign hin => ?_, fun s width offset v a later hb hw hlt ha h =>
    step_busError hb h ha (hostRead_narrow hlt hw)⟩
  obtain rfl := bytes_of_width hn
  refine ⟨fun h => ⟨_, step_readWindow hb h halign hin, fun i _ => ?_⟩,
    fun v h => ⟨_, step_writeWindow hb h halign hin, rfl, fun i hi => ?_, fun x hx => ?_⟩⟩
  · rw [BitVec.toNat_ofNat, Nat.mod_eq_of_lt (leVal_readBytes_lt _ _ _), leVal_readBytes_digit]
  · have hlen : i < (leBytes width.bytes v.toNat).length := by rwa [leBytes_length]
    rw [Memory.read_writeBytes _ _ _ _ hlen, leBytes_getElem, BitVec.toNat_ofNat]
  · exact Memory.read_writeBytes_other _ _ _ _ (by rwa [leBytes_length])

end Sys2Proof.Machine

/-! # The encoding of commands

On the seven fields the decoder and the encoder are inverse to each other (`decodeFields_fieldsOfInstr`,
`fieldsOfInstr_of_decodeFields`), and the fields of a word determine it. -/

namespace Sys2Proof

/-! ## The fields of a word -/

theorem Fields.fits_iff {g : Fields} :
    g.fits = true ↔ g.op < 256 ∧ g.d < 16 ∧ g.a < 16 ∧ g.b < 16 ∧ g.c < 16 ∧ g.e < 16 ∧ g.f < 16 := by
  simp [Fields.fits]

/-- The fields of a word fit (30_encoding.md R101). -/
theorem fieldsOf_fits (w : Word) : (fieldsOf w).fits = true := by
  simp only [Fields.fits_iff, fieldsOf]
  omega

/-- The formula of 30_encoding.md R101 gives back the word whose fields it is given. -/
theorem number_fieldsOf (w : Word) : (fieldsOf w).number = w.toNat := by
  simp only [fieldsOf, Fields.number]
  omega

/-- The law `Laws.Encoding.Statement`, of every instruction. -/
theorem fieldsOf_encode (i : Instr) : fieldsOf (encode i) = fieldsOfInstr i := by
  open Laws.Encoding in
  cases i
  exacts [nop, wipe, feUnpack .., fePack .., feAdd .., feSub .., feMul .., feSq .., feCmov .., feIseq .., feParity ..,
    feInv .., fePow2523 .., scFrom32 .., scFrom64 .., scTo32 .., scAdd .., scMul .., scWindow3 .., scIntlv2 ..,
    geUnpackneg .., gePack .., geAdd .., geDbl .., geMadd .., geSmulbase .., geDsmul .., xLadder .., xBase .., saLdw ..,
    saStw .., saQr .., saDround, saAddw .., saCore .., saHcore .., plInit .., plBlock .., plFinal .., plAuth ..,
    plVerify .., s20Stream .., s20Xor .., xsStream .., xsXor ..]

/-! ## Indices and must-be-zero fields -/

/-- An index is read back from the field that it is put into (10_state.md R23). -/
@[simp] theorem index_val (r : Fin 16) : index r.val = r := Fin.ofNat_val_eq_self r

/-- The index of a number that fits a field is that number. -/
theorem val_index {n : Nat} (h : n < 16) : (index n).val = n := Nat.mod_eq_of_lt h

/-- What the check of the must-be-zero fields answers, if it answers (30_encoding.md R107). -/
theorem ifZero_eq_ok_iff {fields : List Nat} {i j : Instr} :
    ifZero fields i = .ok j ↔ (∀ n ∈ fields, n = 0) ∧ i = j := by
  simp only [ifZero, List.all_eq_true, beq_iff_eq]
  split
  case isTrue hz => rw [and_iff_right hz, Except.ok.injEq]
  case isFalse hz => simp [hz]

/-- A nonzero must-be-zero field is no illegal opcode (30_encoding.md R106, R107). -/
theorem ifZero_ne_illegal (fields : List Nat) (i : Instr) : ifZero fields i ≠ .error .illegalOpcode := by
  unfold ifZero
  split <;> simp

/-! ## The decoder and the encoder -/

/-- The decoder reads the fields of a command as that command. -/
theorem decodeFields_fieldsOfInstr (i : Instr) : decodeFields (fieldsOfInstr i) = .ok i := by
  cases i <;> simp [fieldsOfInstr, decodeFields, ifZero_eq_ok_iff]

/-- Fields that fit and decode are those of their command: each of them is an operand or zero. -/
theorem fieldsOfInstr_of_decodeFields {g : Fields} {i : Instr} (hg : g.fits = true) (h : decodeFields g = .ok i) :
    fieldsOfInstr i = g := by
  obtain ⟨op, d, a, b, c, e, f⟩ := g
  obtain ⟨-, hd, ha, hb, hc, he, hf⟩ := Fields.fits_iff.1 hg
  clear hg
  unfold decodeFields at h
  dsimp only at h
  split at h
  -- Past the last row there is no command; in each row the operands are read back and the other fields are zero.
  case h_46 => cases h
  all_goals
    obtain ⟨hzero, rfl⟩ := ifZero_eq_ok_iff.1 h
    clear h
    simp only [List.forall_mem_cons, List.not_mem_nil, false_implies, implies_true, and_true] at hzero
    simp [fieldsOfInstr, val_index, *]

/-- Settles O1: the fields of the word are those of the command, and they decode to it. -/
theorem decodeOfEncode : Obligations.DecodeOfEncode := by
  intro i _
  rw [decode, fieldsOf_encode, decodeFields_fieldsOfInstr]

/-- Settles O2: the fields of the word are those of the command, and they determine the word. -/
theorem encodeOfDecode : Obligations.EncodeOfDecode := by
  intro w i h
  rw [encode, fieldsOfInstr_of_decodeFields (fieldsOf_fits w) h, number_fieldsOf, BitVec.ofNat_toNat, BitVec.setWidth_eq]

/-! ## Illegal opcodes -/

open Machine in
/-- The opcodes that decode to no command are those of the list of 30_encoding.md R106. -/
theorem decodeFields_illegal_iff {g : Fields} (hg : g.op < 256) :
    decodeFields g = .error .illegalOpcode ↔ ∃ r ∈ unassignedOpcodes, r.1 ≤ g.op ∧ g.op ≤ r.2 := by
  obtain ⟨op, d, a, b, c, e, f⟩ := g
  unfold decodeFields
  dsimp only at hg ⊢
  split
  -- Past the last row the opcode is none of the 45; in each row it is a number outside the list.
  case h_46 =>
    refine iff_of_true rfl ?_
    simp only [unassignedOpcodes, List.mem_cons, List.not_mem_nil, or_false, exists_eq_or_imp, exists_eq_left]
    simp only [imp_false] at *
    omega
  all_goals exact iff_of_false (ifZero_ne_illegal _ _) (by decide)

open Machine in
theorem decode_illegal_iff (w : Word) : decode w = .error .illegalOpcode ↔
    ∃ r ∈ unassignedOpcodes, r.1 ≤ w.toNat / 2 ^ 24 ∧ w.toNat / 2 ^ 24 ≤ r.2 :=
  decodeFields_illegal_iff (Fields.fits_iff.1 (fieldsOf_fits w)).1

end Sys2Proof

namespace Sys2Proof.Machine

/-- Settles O3: an illegal opcode is one outside the map, and the step is the fault of the word in CUR. -/
theorem unassignedOpcodesFault : Obligations.UnassignedOpcodesFault := by
  refine ⟨decode_illegal_iff, fun s hb hi hop => ?_⟩
  -- `s.takeFault .illegalOpcode` is `s.faulted 1` by definition (`takeFault_eq`).
  exact (step_run hb hi).trans (runCurrent_error ((decode_illegal_iff s.CUR).2 hop))

/-- Settles O5: each word is evaluated. -/
theorem sampleWordsDecode : Obligations.SampleWordsDecode := by
  unfold Obligations.SampleWordsDecode
  decide

/-- Settles O6: the cases of a step. -/
theorem stepRunsTheDecodedCommand : Obligations.StepRunsTheDecodedCommand := by
  refine ⟨fun s hb h => step_idle hb h, fun s i hb hd _ => ⟨?_, fun a later h ha => ?_⟩⟩
  · rintro (h | ⟨a, later, h, ha⟩)
    · rw [step_run hb h, runCurrent_ok hd]
    · rw [step_held hb h ha, runCurrent_ok hd]
  · split
    case isTrue hc => exact step_served hb h ha hc
    case isFalse hc =>
      have hd' : decode s.countDraw.CUR = .ok i := hd
      rw [step_unserved hb h ha (Bool.eq_false_of_not_eq_true hc), runCurrent_ok hd']
      rfl

end Sys2Proof.Machine

/-! # The step order

Every meaning is a row of checks with one write at the end. `InOrder` says how steps 3 to 7 of 30_encoding.md R108 end when
the outcomes of the checks are given; one rule per kind of check builds it along a meaning, and `exec_inOrder` says so of
every command, with the outcomes that the tables of the spec give. -/

namespace Sys2Proof.Machine

/-! ## A check, and the step order -/

/-- The check or operand form `x` answers a value if `b` holds, and else is the fault `c`. -/
def Tests {α : Type} (b : Bool) (c : Cause) (x : Except Cause α) : Prop :=
  (b = true → ∃ v, x = .ok v) ∧ (b = false → x = .error c)

/-- The status bits and the fault record are the same in `u` as in `s`. -/
def KeepsRecord (s u : State) : Prop := u.STATUS = s.STATUS ∧ u.CAUSE = s.CAUSE ∧ u.ERRCMD = s.ERRCMD

/-- Every DMEM operand is legal in `s` (20_memory.md R74). -/
def AllInRange (s : State) (ranges : List (Nat × Nat)) : Prop := ∀ r ∈ ranges, r.2 = 0 ∨ r.1 + r.2 ≤ s.params.dmemBytes

/-- How steps 3 to 7 of 30_encoding.md R108 end from `s`: by the first check that fails, or with a new state. The checks are
given by their outcomes: whether the sources are valid, the fault of an X value, the DMEM operands, and whether the values
read from DMEM are legal. -/
inductive InOrder (s : State) : Bool → Option Cause → List (Nat × Nat) → Bool → Except Cause State → Prop
  | uninit (value : Option Cause) (ranges : List (Nat × Nat)) (digit : Bool) :
      InOrder s false value ranges digit (.error .uninit)
  | value (c : Cause) (ranges : List (Nat × Nat)) (digit : Bool) : InOrder s true (some c) ranges digit (.error c)
  | range {ranges : List (Nat × Nat)} (digit : Bool) (h : ¬AllInRange s ranges) :
      InOrder s true none ranges digit (.error .addrRange)
  | digit {ranges : List (Nat × Nat)} (h : AllInRange s ranges) : InOrder s true none ranges false (.error .badValue)
  | done {ranges : List (Nat × Nat)} {u : State} (h : AllInRange s ranges) (hu : KeepsRecord s u) :
      InOrder s true none ranges true (.ok u)

variable {s u : State} {b digit : Bool} {value : Option Cause} {ranges : List (Nat × Nat)} {c : Cause}

theorem allInRange_nil : AllInRange s [] := by simp [AllInRange]

theorem allInRange_cons {q n : Nat} : AllInRange s ((q, n) :: ranges) ↔ s.inRange q n = true ∧ AllInRange s ranges := by
  simp [AllInRange, State.inRange_iff]

/-! ## The operand forms as checks -/

theorem Tests.bind_cases {α : Type} {P : Except Cause State → Prop} {x : Except Cause α} {g : α → Except Cause State}
    (hx : Tests b c x) (hok : b = true → ∀ v, P (g v)) (herr : b = false → P (.error c)) : P (x >>= g) := by
  cases hb : b with
  | true =>
    obtain ⟨v, rfl⟩ := hx.1 hb
    exact hok hb v
  | false =>
    rw [hx.2 hb]
    exact herr hb

theorem check_tests (b : Bool) (c : Cause) : Tests b c (check b c) := by cases b <;> simp [Tests]

theorem needF_tests (s : State) (i : FReg) : Tests s.F[i].valid .uninit (s.needF i) :=
  ⟨fun h => ⟨_, State.needF_valid h⟩, State.needF_invalid⟩

theorem needS_tests (s : State) (i : SReg) : Tests s.S[i].valid .uninit (s.needS i) :=
  ⟨fun h => ⟨_, State.needS_valid h⟩, State.needS_invalid⟩

theorem needP_tests (s : State) (i : PReg) : Tests s.P[i].valid .uninit (s.needP i) :=
  ⟨fun h => ⟨_, State.needP_valid h⟩, State.needP_invalid⟩

theorem needW_tests (s : State) : Tests s.WV .uninit s.needW :=
  ⟨fun h => ⟨_, State.needW_valid h⟩, State.needW_invalid⟩

theorem needPoly_tests (s : State) : Tests s.PV .uninit s.needPoly := check_tests _ _

theorem needRange_tests (s : State) (a n : Nat) : Tests (s.inRange a n) .addrRange (s.needRange a n) := check_tests _ _

theorem needBytes_tests (s : State) (i : XReg) (n : Nat) :
    Tests (s.inRange (s.xVal i) n) .addrRange (s.needBytes i n) :=
  ⟨fun h => ⟨_, State.needBytes_legal h⟩, State.needBytes_illegal⟩

theorem needDest_tests (s : State) (i : XReg) (n : Nat) :
    Tests (s.inRange (s.xVal i) n) .addrRange (s.needDest i n) :=
  ⟨fun h => ⟨_, State.needDest_legal h⟩, State.needDest_illegal⟩

/-! ## The step order along a meaning -/

section
variable {α : Type} {x : Except Cause α} {g : α → Except Cause State}

/-- The write at the end, after which nothing is checked (step 7). That it keeps the record is read off the field lemmas of
the write. -/
theorem InOrder.write (h : KeepsRecord s u := by simp [KeepsRecord]) : InOrder s true none [] true (pure u) :=
  .done allInRange_nil h

/-- The last source register, or the unit state (step 3). -/
theorem InOrder.source (hx : Tests b .uninit x) (h : ∀ v, InOrder s true value ranges digit (g v)) :
    InOrder s b value ranges digit (x >>= g) :=
  hx.bind_cases (fun hb v => hb ▸ h v) fun hb => hb ▸ .uninit ..

/-- A source register before others (step 3). -/
theorem InOrder.sourceThen {b' : Bool} (hx : Tests b .uninit x) (h : ∀ v, InOrder s b' value ranges digit (g v)) :
    InOrder s (b && b') value ranges digit (x >>= g) :=
  hx.bind_cases (fun hb v => hb ▸ h v) fun hb => hb ▸ .uninit ..

/-- An X value with a legal range (step 4). -/
theorem InOrder.xValue {P : Prop} [Decidable P] {g : Unit → Except Cause State} (hb : b = true ↔ P)
    (h : InOrder s true none ranges digit (g ())) :
    InOrder s true (if P then none else some c) ranges digit (check b c >>= g) := by
  refine (check_tests b c).bind_cases (fun hP _ => ?_) fun hP => ?_
  · rw [if_pos (hb.1 hP)]
    exact h
  · rw [if_neg (by simp [← hb, hP])]
    exact .value ..

/-- A DMEM operand (step 5). -/
theorem InOrder.operand {q n : Nat} (hx : Tests (s.inRange q n) .addrRange x)
    (h : ∀ v, InOrder s true none ranges digit (g v)) : InOrder s true none ((q, n) :: ranges) digit (x >>= g) := by
  refine hx.bind_cases (fun hq v => ?_) fun hq => .range digit (by simp [allInRange_cons, hq])
  have hall : AllInRange s ((q, n) :: ranges) ↔ AllInRange s ranges := by simp [allInRange_cons, hq]
  have hv := h v
  generalize g v = r at *
  cases hv with
  | range digit hr => exact .range digit (mt hall.1 hr)
  | digit hr => exact .digit (hall.2 hr)
  | done hr hu => exact .done (hall.2 hr) hu

/-- A value read from DMEM (step 6). -/
theorem InOrder.readValue (hx : Tests digit .badValue x) (h : ∀ v, InOrder s true none [] true (g v)) :
    InOrder s true none [] digit (x >>= g) :=
  hx.bind_cases (fun hb v => hb ▸ h v) fun hb => hb ▸ .digit allInRange_nil

end

/-! ## The shared operations of the meanings -/

theorem fieldBinary_inOrder (s : State) (g : Nat → Nat → Nat) (d a b : FReg) :
    InOrder s (s.F[a].valid && s.F[b].valid) none [] true (s.fieldBinary g d a b) :=
  .sourceThen (needF_tests s a) fun _ => .source (needF_tests s b) fun _ => .write

theorem fieldUnary_inOrder (s : State) (g : Nat → Nat) (d a : FReg) :
    InOrder s s.F[a].valid none [] true (s.fieldUnary g d a) :=
  .source (needF_tests s a) fun _ => .write

theorem scalarLoad_inOrder (s : State) (n : Nat) (d : SReg) (a : XReg) :
    InOrder s true none [(s.xVal a, n)] true (s.scalarLoad n d a) :=
  .operand (needBytes_tests s a n) fun _ => .write

theorem scalarBinary_inOrder (s : State) (g : Nat → Nat → Nat) (d a b : SReg) :
    InOrder s (s.S[a].valid && s.S[b].valid) none [] true (s.scalarBinary g d a b) :=
  .sourceThen (needS_tests s a) fun _ => .source (needS_tests s b) fun _ => .write

theorem salsaComposite_inOrder (s : State) (core : List Byte → List Byte → List Byte → List Byte) (n : Nat)
    (d a b c : XReg) :
    InOrder s true none [(s.xVal a, 16), (s.xVal b, 32), (s.xVal c, 16), (s.xVal d, n)] true
      (s.salsaComposite core n d a b c) :=
  .operand (needBytes_tests s a 16) fun _ => .operand (needBytes_tests s b 32) fun _ =>
    .operand (needBytes_tests s c 16) fun _ => .operand (needDest_tests s d n) fun _ => .write

theorem streamOut_inOrder (s : State) (ks : List Byte → List Byte → Nat → List Byte) (n : Nat) (d a b c : XReg) :
    InOrder s true none [(s.xVal b, n), (s.xVal c, 32), (s.xVal d, s.xVal a)] true (s.streamOut ks n d a b c) :=
  .operand (needBytes_tests s b n) fun _ => .operand (needBytes_tests s c 32) fun _ =>
    .operand (needDest_tests s d _) fun _ => .write

theorem streamXor_inOrder (s : State) (ks : List Byte → List Byte → Nat → List Byte) (n : Nat) (d a b c e f : XReg) :
    InOrder s true (if s.xVal f ≤ 63 then none else some .badValue)
      [(s.xVal a, s.xVal b), (s.xVal c, n), (s.xVal e, 32), (s.xVal d, s.xVal f + s.xVal b)] true
      (s.streamXor ks n d a b c e f) :=
  .xValue decide_eq_true_iff <| .operand (needRange_tests s _ _) fun _ => .operand (needBytes_tests s c n) fun _ =>
    .operand (needBytes_tests s e 32) fun _ => .operand (needDest_tests s d _) fun _ => .write

/-! ## The commands -/

/-- `exec i s` is a computation that goes through the checks of `i` in the step order, ended by the one operation that ends
commands. -/
def RunsInOrder (i : Instr) (s : State) : Prop :=
  ∃ r, exec i s = s.finish r ∧
    InOrder s (s.sourcesValid i) (s.valueFault i) (s.operandRanges i) (s.digitLegal i) r

/-- FE.CMOV reads both registers before it checks the condition (41_fe25519.md R148). -/
theorem feCmov_inOrder (d a : FReg) (b : XReg) (s : State) : RunsInOrder (.feCmov d a b) s :=
  ⟨_, rfl, .sourceThen (needF_tests s d) fun _ => .source (needF_tests s a) fun _ =>
    .xValue decide_eq_true_iff .write⟩

/-- GE.MADD checks the position, the digit's address and the digit, in this order (43_ge25519.md R198). -/
theorem geMadd_inOrder (d a : PReg) (b c : XReg) (s : State) : RunsInOrder (.geMadd d a b c) s := by
  refine ⟨_, rfl, .source (needP_tests s a) fun _ => .xValue decide_eq_true_iff <|
    .operand (needRange_tests s _ _) fun _ => .readValue ?_ fun _ => .write⟩
  rw [State.digitLegal, Bool.decide_and]
  exact check_tests _ _

/-- GE.DSMUL reads its four registers in field order (43_ge25519.md R200). -/
theorem geDsmul_inOrder (d a : PReg) (b : SReg) (c : PReg) (e : SReg) (s : State) : RunsInOrder (.geDsmul d a b c e) s := by
  refine ⟨_, rfl, ?_⟩
  rw [State.sourcesValid, Bool.and_assoc, Bool.and_assoc]
  exact .sourceThen (needP_tests s a) fun _ => .sourceThen (needS_tests s b) fun _ =>
    .sourceThen (needP_tests s c) fun _ => .source (needS_tests s e) fun _ => .write

/-- PL.BLOCK checks the length before the range that it gives (46_poly1305.md R258). -/
theorem plBlock_inOrder (a b : XReg) (s : State) : RunsInOrder (.plBlock a b) s :=
  ⟨_, rfl, .source (needPoly_tests s) fun _ => .xValue (by simp) <| .operand (needBytes_tests s a _) fun _ =>
    .write⟩

/-- Every command goes through its checks in the step order (30_encoding.md R108). -/
theorem exec_inOrder (i : Instr) (s : State) : RunsInOrder i s := by
  cases i with
  | nop => exact ⟨.ok s, rfl, .write⟩
  | wipe => exact ⟨.ok s.wipe, rfl, .write⟩
  | feAdd d a b | feSub d a b | feMul d a b => exact ⟨_, rfl, fieldBinary_inOrder s _ d a b⟩
  | feSq d a | feInv d a | fePow2523 d a => exact ⟨_, rfl, fieldUnary_inOrder s _ d a⟩
  | scFrom32 d a | scFrom64 d a => exact ⟨_, rfl, scalarLoad_inOrder s _ d a⟩
  | scAdd d a b | scMul d a b => exact ⟨_, rfl, scalarBinary_inOrder s _ d a b⟩
  | saCore d a b c | saHcore d a b c => exact ⟨_, rfl, salsaComposite_inOrder s _ _ d a b c⟩
  | s20Stream d a b c | xsStream d a b c => exact ⟨_, rfl, streamOut_inOrder s _ _ d a b c⟩
  | s20Xor d a b c e f | xsXor d a b c e f => exact ⟨_, rfl, streamXor_inOrder s _ _ d a b c e f⟩
  | feCmov d a b => exact feCmov_inOrder d a b s
  | geMadd d a b c => exact geMadd_inOrder d a b c s
  | geDsmul d a b c e => exact geDsmul_inOrder d a b c e s
  | plBlock a b => exact plBlock_inOrder a b s
  | feParity d a => exact ⟨_, rfl, .source (needF_tests s a) fun _ => .write⟩
  | geSmulbase d a => exact ⟨_, rfl, .source (needS_tests s a) fun _ => .write⟩
  | geDbl d a => exact ⟨_, rfl, .source (needP_tests s a) fun _ => .write⟩
  | saQr i0 i1 i2 i3 => exact ⟨_, rfl, .source (needW_tests s) fun _ => .write⟩
  | saDround => exact ⟨_, rfl, .source (needW_tests s) fun _ => .write⟩
  | feIseq d a b =>
    exact ⟨_, rfl, .sourceThen (needF_tests s a) fun _ => .source (needF_tests s b) fun _ => .write⟩
  | geAdd d a b =>
    exact ⟨_, rfl, .sourceThen (needP_tests s a) fun _ => .source (needP_tests s b) fun _ => .write⟩
  | fePack d a =>
    exact ⟨_, rfl, .source (needF_tests s a) fun _ => .operand (needDest_tests s d 32) fun _ => .write⟩
  | scTo32 d a =>
    exact ⟨_, rfl, .source (needS_tests s a) fun _ => .operand (needDest_tests s d 32) fun _ => .write⟩
  | scWindow3 d a =>
    exact ⟨_, rfl, .source (needS_tests s a) fun _ => .operand (needDest_tests s d 85) fun _ => .write⟩
  | gePack d a =>
    exact ⟨_, rfl, .source (needP_tests s a) fun _ => .operand (needDest_tests s d 32) fun _ => .write⟩
  | saStw d => exact ⟨_, rfl, .source (needW_tests s) fun _ => .operand (needDest_tests s d 64) fun _ => .write⟩
  | saAddw a => exact ⟨_, rfl, .source (needW_tests s) fun _ => .operand (needBytes_tests s a 64) fun _ => .write⟩
  | plFinal d => exact ⟨_, rfl, .source (needPoly_tests s) fun _ => .operand (needDest_tests s d 16) fun _ => .write⟩
  | scIntlv2 d a b =>
    exact ⟨_, rfl, .sourceThen (needS_tests s a) fun _ => .source (needS_tests s b) fun _ =>
      .operand (needDest_tests s d 127) fun _ => .write⟩
  | feUnpack d a => exact ⟨_, rfl, .operand (needBytes_tests s a 32) fun _ => .write⟩
  | geUnpackneg d a b => exact ⟨_, rfl, .operand (needBytes_tests s a 32) fun _ => .write⟩
  | plInit a => exact ⟨_, rfl, .operand (needBytes_tests s a 32) fun _ => .write⟩
  | xBase d a =>
    exact ⟨_, rfl, .operand (needBytes_tests s a 32) fun _ => .operand (needDest_tests s d 32) fun _ => .write⟩
  | xLadder d a b =>
    exact ⟨_, rfl, .operand (needBytes_tests s a 32) fun _ => .operand (needBytes_tests s b 32) fun _ =>
      .operand (needDest_tests s d 32) fun _ => .write⟩
  | saLdw a b c =>
    exact ⟨_, rfl, .operand (needBytes_tests s a 16) fun _ => .operand (needBytes_tests s b 32) fun _ =>
      .operand (needBytes_tests s c 16) fun _ => .write⟩
  | plAuth d a b c =>
    exact ⟨_, rfl, .operand (needBytes_tests s a _) fun _ => .operand (needBytes_tests s c 32) fun _ =>
      .operand (needDest_tests s d 16) fun _ => .write⟩
  | plVerify d a b c e =>
    exact ⟨_, rfl, .operand (needBytes_tests s a 16) fun _ => .operand (needBytes_tests s b _) fun _ =>
      .operand (needBytes_tests s e 32) fun _ => .write⟩

/-- Settles O26: every command goes through its checks in the step order, and how it ends is read off. -/
theorem checksRunInTheStepOrder : Obligations.ChecksRunInTheStepOrder := by
  intro i s
  obtain ⟨r, hr, h⟩ := exec_inOrder i s
  rw [hr]
  generalize s.sourcesValid i = b, s.valueFault i = value, s.operandRanges i = ranges, s.digitLegal i = digit at h
  cases h with
  | uninit => exact ⟨fun _ => rfl, nofun⟩
  | value c =>
    refine ⟨nofun, fun _ => ⟨fun h => ?_, fun h => ?_, nofun⟩⟩
    · cases h
      rfl
    · cases h
      rfl
  | range digit hall => exact ⟨nofun, fun _ => ⟨nofun, nofun, fun _ => ⟨fun _ => rfl, fun h => absurd h hall⟩⟩⟩
  | digit hall =>
    exact ⟨nofun, fun _ => ⟨nofun, nofun, fun _ => ⟨fun h => absurd hall h, fun _ => ⟨fun _ => rfl, nofun⟩⟩⟩⟩
  | done hall hu =>
    obtain ⟨hstatus, hcause, herrcmd⟩ := hu
    refine ⟨nofun, fun _ => ⟨nofun, nofun, fun _ => ⟨fun h => absurd hall h, fun _ => ⟨nofun, fun _ => ?_⟩⟩⟩⟩
    exact ⟨_, rfl, by simp [hstatus], hcause, herrcmd⟩

end Sys2Proof.Machine

/-! # The system commands

NOP is the completion alone (40_system.md R131). WIPE clears the data state and then completes (R132); the two updates
commute and each is idempotent, so a second WIPE changes nothing. -/

namespace Sys2Proof.Machine

/-- 40_system.md R131. -/
theorem exec_nop (s : State) : exec .nop s = .next s.complete := State.finish_ok s s

/-- 40_system.md R132. -/
theorem exec_wipe (s : State) : exec .wipe s = .next s.wipe.complete := State.finish_ok s s.wipe

/-! ## Clearing and completing -/

theorem State.wipe_wipe (s : State) : s.wipe.wipe = s.wipe := rfl

theorem State.complete_complete (s : State) : s.complete.complete = s.complete := rfl

theorem State.complete_wipe_comm (s : State) : s.complete.wipe = s.wipe.complete := rfl

/-- Nothing that WIPE clears is a control register or a field of the model's own. -/
theorem sameControl_wipe (s : State) : SameControl s s.wipe :=
  ⟨s.wipe_params, s.wipe_CTRL, s.wipe_CAUSE, s.wipe_ERRCMD, s.wipe_CUR, s.wipe_inputs, s.wipe_answer, s.wipe_draws⟩

/-- A completion writes STATUS alone, which `SameControl` leaves out. -/
theorem SameControl.complete {s t : State} (h : SameControl s t) : SameControl s t.complete :=
  ⟨h.params, h.ctrl, h.cause, h.errcmd, h.cur, h.inputs, h.answer, h.draws⟩

/-- 40_system.md R132, corner case (a). -/
theorem exec_wipe_again (s : State) : exec .wipe s.wipe.complete = .next s.wipe.complete := by
  rw [exec_wipe, State.complete_wipe_comm, State.wipe_wipe, State.complete_complete]

/-- Settles O31: NOP is its completion, and the state after WIPE is `s.wipe.complete`, field by field. -/
theorem nopAndWipeResults : Obligations.NopAndWipeResults := by
  intro s
  refine ⟨exec_nop s, s.wipe.complete, exec_wipe s, (sameControl_wipe s).complete, s.wipe.complete_STATUS, ?xregs, ?fregs,
    ?sregs, ?pregs, ?words, s.wipe_WV, s.wipe_PH, s.wipe_PR, s.wipe_PS, s.wipe_PV, ?mem, exec_wipe_again s⟩
  case xregs | words => exact fun i => file_replicate 0 i
  case fregs | sregs => exact fun i => file_replicate (Slot.invalid 0) i
  case pregs => exact fun i => file_replicate (Slot.invalid Point.zero) i
  case mem => exact fun a => Memory.read_wiped a

end Sys2Proof.Machine

/-! # The field commands

Each field command makes one write, of an F register, an X register or 32 bytes: `Effect.completes` gives its completion and
frame, and what is left is the value written, which the laws of GF(p) relate to the arithmetic of 41_fe25519.md. -/

namespace Sys2Proof.Machine

variable {s u : State} {k : Touch}

/-! ## Completion after an effect -/

/-- No effect reaches a control register or a field of the model's own. -/
theorem Effect.sameControl (h : Effect s k u) : SameControl s u := by
  cases h <;> exact ⟨rfl, rfl, rfl, rfl, rfl, rfl, rfl, rfl⟩

/-- An effect followed by the completion is a completed command (10_state.md R52). -/
theorem Effect.completes (h : Effect s k u) : Completes k s u.complete where
  status := by rw [State.complete_STATUS, h.status]
  control := h.sameControl.complete
  frame := h.frame.complete

/-- A meaning that answers without a fault ends its command in completion. -/
theorem finish_of_ok {r : Except Cause State} (h : r = .ok u) : s.finish r = .next u.complete := by
  rw [h, State.finish_ok]

/-! ## What a write leaves to be read -/

/-- A valid register is its value with the valid bit. -/
theorem Slot.mk_value_of_valid {α : Type} {r : Slot α} (h : r.valid = true) : (⟨true, r.value⟩ : Slot α) = r := by rw [← h]

/-- An integer stored as `n` bytes that can hold it is read back (00_scope.md R11). -/
theorem leVal_readBytes_writeBytes (m : Memory) (q : Nat) {n v : Nat} (h : v < 256 ^ n) :
    leVal ((m.writeBytes q (leBytes n v)).readBytes q n) = v := by
  have hread := m.readBytes_writeBytes q (leBytes n v)
  rw [leBytes_length] at hread
  rw [hread, leVal_leBytes_of_lt h]

/-- A field element fits in 32 bytes (41_fe25519.md R143). -/
theorem lt_pow_of_lt_p {v : Nat} (h : v < p) : v < 256 ^ 32 :=
  h.trans (p_lt.trans (by decide))

/-- A command that writes a canonical value into `F[d]` has the result that statements ask of it. -/
theorem fieldWrite_result {i : Instr} {d : FReg} {v : Nat} (h : exec i s = .next (s.writeF d v).complete) (hv : v < p) :
    ∃ t, exec i s = .next t ∧ Completes { f := [d] } s t ∧ t.F[d] = ⟨true, v⟩ :=
  ⟨_, h, (Effect.field d hv).completes, file_set_self s.F d _⟩

/-- A command that writes a truth value into `X[d]`, likewise. -/
theorem truthWrite_result {i : Instr} {d : XReg} {b : Bool} (h : exec i s = .next (s.writeX d (boolWord b)).complete) :
    ∃ t, exec i s = .next t ∧ Completes { x := [d] } s t ∧ t.X[d] = boolWord b :=
  ⟨_, h, (Effect.truth d b).completes, file_set_self s.X d _⟩

/-! ## The commands when their checks pass -/

section
variable {d a b : FReg}

theorem fieldBinary_finish (g : Nat → Nat → Nat) (ha : s.F[a].valid = true) (hb : s.F[b].valid = true) :
    s.finish (s.fieldBinary g d a b) = .next (s.writeF d (g s.F[a].value s.F[b].value)).complete :=
  finish_of_ok (State.fieldBinary_ok.2 ⟨ha, hb, rfl⟩)

theorem fieldUnary_finish (g : Nat → Nat) (ha : s.F[a].valid = true) :
    s.finish (s.fieldUnary g d a) = .next (s.writeF d (g s.F[a].value)).complete :=
  finish_of_ok (State.fieldUnary_ok.2 ⟨ha, rfl⟩)

/-- 41_fe25519.md R142. -/
theorem exec_feUnpack {x : XReg} (h : s.inRange (s.xVal x) 32 = true) :
    exec (.feUnpack d x) s = .next (s.writeF d (fDecode (leVal (s.DMEM.readBytes (s.xVal x) 32)))).complete :=
  finish_of_ok (by rw [State.needBytes_legal h]; rfl)

/-- 41_fe25519.md R143. -/
theorem exec_fePack {x : XReg} (ha : s.F[a].valid = true) (h : s.inRange (s.xVal x) 32 = true) :
    exec (.fePack x a) s = .next (s.writeMem (s.xVal x) (leBytes 32 s.F[a].value)).complete :=
  finish_of_ok (by rw [State.needF_valid ha, State.needDest_legal h]; rfl)

/-- 41_fe25519.md R148. -/
theorem exec_feCmov {x : XReg} (hd : s.F[d].valid = true) (ha : s.F[a].valid = true) (hx : s.xVal x ≤ 1) :
    exec (.feCmov d a x) s =
      .next (s.writeF d (if s.xVal x = 1 then s.F[a].value else s.F[d].value)).complete :=
  finish_of_ok (by rw [State.needF_valid hd, State.needF_valid ha, decide_eq_true hx]; rfl)

/-- 41_fe25519.md R149. -/
theorem exec_feIseq {x : XReg} (ha : s.F[a].valid = true) (hb : s.F[b].valid = true) :
    exec (.feIseq x a b) s = .next (s.writeX x (boolWord (s.F[a].value == s.F[b].value))).complete :=
  finish_of_ok (by rw [State.needF_valid ha, State.needF_valid hb]; rfl)

/-- 41_fe25519.md R150. -/
theorem exec_feParity {x : XReg} (ha : s.F[a].valid = true) :
    exec (.feParity x a) s = .next (s.writeX x (boolWord (s.F[a].value % 2 == 1))).complete :=
  finish_of_ok (by rw [State.needF_valid ha]; rfl)

/-- 41_fe25519.md R152. -/
theorem exec_feInv (ha : s.F[a].valid = true) : exec (.feInv d a) s = .next (s.writeF d (fInv s.F[a].value)).complete :=
  fieldUnary_finish fInv ha

/-- FE.CMOV copies `F[a]` where the condition is 1, and keeps `F[d]` where it is 0 (41_fe25519.md R148). -/
theorem feCmov_copies {x : XReg} (hd : s.F[d].valid = true) (ha : s.F[a].valid = true) (hx : s.xVal x ≤ 1) :
    ∃ t, exec (.feCmov d a x) s = .next t ∧ Completes { f := [d] } s t ∧
      t.F[d] = if s.xVal x = 1 then s.F[a] else s.F[d] := by
  refine ⟨_, exec_feCmov hd ha hx, ?_⟩
  split
  · exact ⟨(Effect.fieldCopy d a ha).completes, (file_set_self s.F d _).trans (Slot.mk_value_of_valid ha)⟩
  · exact ⟨(Effect.fieldCopy d d hd).completes, (file_set_self s.F d _).trans (Slot.mk_value_of_valid hd)⟩

end

/-! ## The values -/

theorem fInv_eq_pow (a : Nat) : fInv a = a ^ (p - 2) % p := powMod_eq p a (p - 2)

theorem fPow2523_eq_pow (a : Nat) : fPow2523 a = a ^ ((p - 5) / 8) % p := powMod_eq p a ((p - 5) / 8)

/-- The inverse of 0 is 0 (41_fe25519.md R152). -/
theorem fInv_zero : fInv 0 = 0 := by
  have : Fact p.Prime := ⟨p_prime⟩
  exact eq_of_cast_eq (fInv_lt 0) p_pos (by rw [fInv_cast, Nat.cast_zero, inv_zero])

/-- A nonzero element times its inverse is 1: the field has no zero divisors, since p is prime (41_fe25519.md R152). -/
theorem fMul_fInv {a : Nat} (ha : a < p) (h0 : a ≠ 0) : fMul a (fInv a) = 1 := by
  have : Fact p.Prime := ⟨p_prime⟩
  have hne : (a : ZMod p) ≠ 0 := fun h => h0 (eq_of_cast_eq ha p_pos (h.trans Nat.cast_zero.symm))
  refine eq_of_cast_eq (fMul_lt _ _) p_prime.one_lt ?_
  rw [fMul_cast, fInv_cast, mul_inv_cancel₀ hne, Nat.cast_one]

theorem boolWord_beq {α : Type} [DecidableEq α] (x y : α) : boolWord (x == y) = if x = y then 1 else 0 := by
  by_cases h : x = y <;> simp [boolWord, h]

/-- A parity bit as a word is the parity (41_fe25519.md R150). -/
theorem boolWord_parity (n : Nat) : (boolWord (n % 2 == 1)).toNat = n % 2 := by
  rcases Nat.mod_two_eq_zero_or_one n with h | h <;> rw [h] <;> rfl

/-! ## The obligations -/

/-- Settles O32: the bytes loaded are decoded, and the bytes stored are read back. -/
theorem fieldLoadAndStore : Obligations.FieldLoadAndStore := by
  intro s
  refine ⟨fun d a hrange => ?_, fun d a hinv ha hrange => ?_⟩
  · exact fieldWrite_result (exec_feUnpack (State.inRange_iff.2 (.inr hrange))) (fDecode_lt _)
  · have hq : s.inRange (s.xVal d) 32 = true := State.inRange_iff.2 (.inr hrange)
    have hv : s.F[a].value < p := lt_of_below (hinv.fields a) ha
    exact ⟨_, exec_fePack ha hq, (Effect.mem hq (leBytes_length 32 _)).completes,
      leVal_readBytes_writeBytes s.DMEM _ (lt_pow_of_lt_p hv)⟩

/-- Settles O33: the operands are read before the one write, so coinciding registers make no difference. -/
theorem fieldArithmetic : Obligations.FieldArithmetic := by
  intro s d a b ha
  refine ⟨fun hb => ⟨?add, ?sub, ?mul⟩, ?sq⟩
  case add => exact fieldWrite_result (fieldBinary_finish fAdd ha hb) (fAdd_lt _ _)
  case mul => exact fieldWrite_result (fieldBinary_finish fMul ha hb) (fMul_lt _ _)
  case sq => exact fieldWrite_result (fieldUnary_finish (fun x => fMul x x) ha) (fMul_lt _ _)
  case sub =>
    obtain ⟨t, ht, hc, hv⟩ := fieldWrite_result (i := .feSub d a b) (fieldBinary_finish fSub ha hb) (fSub_lt _ _)
    exact ⟨t, _, ht, hc, hv, fSub_int _ _⟩

/-- Settles O34: by the register that the condition selects, and by the truth value written. -/
theorem fieldMoveAndPredicates : Obligations.FieldMoveAndPredicates := by
  intro s d a b x ha
  refine ⟨fun hd hx => ?cmov, fun hb => ?iseq, ?parity⟩
  case cmov =>
    obtain ⟨t, ht, hc, hv⟩ := feCmov_copies hd ha hx
    exact ⟨t, ht, hc, fun h1 => hv.trans (if_pos h1), fun h0 => hv.trans (if_neg (h0.trans_ne Nat.zero_ne_one))⟩
  case iseq =>
    obtain ⟨t, ht, hc, hv⟩ := truthWrite_result (exec_feIseq (x := x) ha hb)
    exact ⟨t, ht, hc, hv.trans (boolWord_beq _ _)⟩
  case parity =>
    obtain ⟨t, ht, hc, hv⟩ := truthWrite_result (exec_feParity (x := x) ha)
    exact ⟨t, ht, hc, by rw [hv, boolWord_parity]⟩

/-- Settles O35: the powers by squaring are the powers. -/
theorem fieldPowers : Obligations.FieldPowers := by
  intro s d a ha
  rw [← fInv_eq_pow, ← fPow2523_eq_pow]
  exact ⟨fieldWrite_result (exec_feInv ha) (fInv_lt _), fieldWrite_result (fieldUnary_finish fPow2523 ha) (fPow2523_lt _)⟩

/-- Settles O36: by Fermat's little theorem in `fInv_cast`, since p is prime. -/
theorem fieldInverseInverts : Obligations.FieldInverseInverts := by
  intro s d a hinv ha
  obtain ⟨t, ht, hc, hv⟩ := fieldWrite_result (exec_feInv (d := d) ha) (fInv_lt _)
  refine ⟨t, ht, by rw [hc.status], ?_⟩
  rw [hv]
  exact ⟨rfl, fInv_lt _, fun h0 => by rw [h0, fInv_zero], fMul_fInv (lt_of_below (hinv.fields a) ha)⟩

end Sys2Proof.Machine

/-! # The scalar commands

A command that loads, adds or multiplies makes one write of an S register (42_sc25519.md R172, R173, R175, R176). A command
that stores makes one write of bytes; what its bytes stand for is a fact about the list of digits alone, in base 4 for
SC.INTLV2 (R178) and in signed base 8 for SC.WINDOW3 (R177). -/

namespace Sys2Proof.Machine

variable {s : State}

/-! ## Scalars -/

/-- A scalar fits in 32 bytes (42_sc25519.md R174). -/
theorem lt_pow_of_lt_ell {v : Nat} (h : v < ell) : v < 256 ^ 32 := h.trans (by decide +kernel)

/-- A command that writes a canonical value into `S[d]` has the result that statements ask of it. -/
theorem scalarWrite_result {i : Instr} {d : SReg} {v : Nat} (h : exec i s = .next (s.writeS d v).complete) (hv : v < ell) :
    ∃ t, exec i s = .next t ∧ Completes { s := [d] } s t ∧ t.S[d] = ⟨true, v⟩ :=
  ⟨_, h, (Effect.scalar d hv).completes, file_set_self s.S d _⟩

/-- A command that stores a list of digits, one byte each by `g`, at the operand `d`: digit `i` is read as `g` has it. -/
theorem digitStore_result {α : Type} {i : Instr} {d : XReg} {n : Nat} (g : α → Byte) {l : List α} (z : α)
    (h : exec i s = .next (s.writeMem (s.xVal d) (l.map g)).complete) (hl : l.length = n)
    (hq : s.inRange (s.xVal d) n = true) :
    ∃ t, exec i s = .next t ∧ Completes { base := s.xVal d, count := n } s t ∧
      ∀ j < n, t.DMEM.read (s.xVal d + j) = g (l.getD j z) := by
  have hlen : (l.map g).length = n := by rw [List.length_map, hl]
  refine ⟨_, h, (Effect.mem hq hlen).completes, fun j hj => ?_⟩
  have hbyte := s.DMEM.read_writeBytes (s.xVal d) (l.map g) j (hlen ▸ hj)
  rwa [List.getElem_map, ← List.getD_eq_getElem l z] at hbyte

/-! ## The commands when their checks pass -/

section
variable {d a b : SReg}

theorem scalarLoad_finish {x : XReg} {n : Nat} (h : s.inRange (s.xVal x) n = true) :
    s.finish (s.scalarLoad n d x) = .next (s.writeS d (leVal (s.DMEM.readBytes (s.xVal x) n) % ell)).complete :=
  finish_of_ok (State.scalarLoad_ok.2 ⟨h, rfl⟩)

theorem scalarBinary_finish (g : Nat → Nat → Nat) (ha : s.S[a].valid = true) (hb : s.S[b].valid = true) :
    s.finish (s.scalarBinary g d a b) = .next (s.writeS d (g s.S[a].value s.S[b].value)).complete :=
  finish_of_ok (State.scalarBinary_ok.2 ⟨ha, hb, rfl⟩)

/-- 42_sc25519.md R174. -/
theorem exec_scTo32 {x : XReg} (ha : s.S[a].valid = true) (h : s.inRange (s.xVal x) 32 = true) :
    exec (.scTo32 x a) s = .next (s.writeMem (s.xVal x) (leBytes 32 s.S[a].value)).complete :=
  finish_of_ok (by rw [State.needS_valid ha, State.needDest_legal h]; rfl)

/-- 42_sc25519.md R177. -/
theorem exec_scWindow3 {x : XReg} (ha : s.S[a].valid = true) (h : s.inRange (s.xVal x) 85 = true) :
    exec (.scWindow3 x a) s =
      .next (s.writeMem (s.xVal x) ((window3 s.S[a].value).map (BitVec.ofInt 8))).complete :=
  finish_of_ok (by rw [State.needS_valid ha, State.needDest_legal h]; rfl)

/-- 42_sc25519.md R178. -/
theorem exec_scIntlv2 {x : XReg} (ha : s.S[a].valid = true) (hb : s.S[b].valid = true)
    (h : s.inRange (s.xVal x) 127 = true) :
    exec (.scIntlv2 x a b) s =
      .next (s.writeMem (s.xVal x) ((interleave2 s.S[a].value s.S[b].value).map (BitVec.ofNat 8))).complete :=
  finish_of_ok (by rw [State.needS_valid ha, State.needS_valid hb, State.needDest_legal h]; rfl)

end

/-! ## Signed base-8 digits -/

/-- One round of the recoding loop: the digit and the carry out of it make up the base-8 digit and the carry into it
(42_sc25519.md R177). -/
theorem window3From_succ (v n i : Nat) {c : Nat} (hc : c ≤ 1) :
    ∃ (r : Int) (c' : Nat), window3From v (n + 1) i c = r :: window3From v n (i + 1) c' ∧ c' ≤ 1 ∧
      r + 8 * c' = (v / 8 ^ i % 8 + c : Nat) ∧ -4 ≤ r ∧ r ≤ 3 := by
  have hdigit : v / 8 ^ i % 8 < 8 := Nat.mod_lt _ (by decide)
  rw [window3From]
  generalize v / 8 ^ i % 8 = x at hdigit ⊢
  split
  · exact ⟨_, 1, rfl, le_rfl, by omega, by omega, by omega⟩
  · exact ⟨_, 0, rfl, Nat.zero_le 1, by omega, by omega, by omega⟩

/-- Every digit but the last is in -4 .. 3. -/
theorem window3From_range (v : Nat) {n i c k : Nat} (hc : c ≤ 1) (hk : k < n) :
    -4 ≤ (window3From v n i c).getD k 0 ∧ (window3From v n i c).getD k 0 ≤ 3 := by
  induction n generalizing i c k with
  | zero => exact absurd hk (Nat.not_lt_zero k)
  | succ n ih =>
    obtain ⟨r, c', hcons, hc', -, hr⟩ := window3From_succ v n i hc
    rw [hcons]
    cases k with
    | zero => exact hr
    | succ k => exact ih hc' (Nat.lt_of_succ_lt_succ hk)

/-- The digits from digit `i` on sum to what is left of the number, with the carry in. -/
theorem window3From_sum (v : Nat) {n i c : Nat} (hc : c ≤ 1) (hv : v / 8 ^ i < 8 ^ (n + 1)) :
    ∑ k ∈ Finset.range (n + 1), (window3From v n i c).getD k 0 * 8 ^ k = (v / 8 ^ i + c : Nat) := by
  induction n generalizing i c with
  | zero =>
    rw [zero_add, pow_one] at hv
    rw [zero_add, Finset.sum_range_one, window3From, List.getD_cons_zero, Nat.mod_eq_of_lt hv, pow_zero, mul_one]
  | succ n ih =>
    obtain ⟨r, c', hcons, hc', hr, -⟩ := window3From_succ v n i hc
    have hnext : v / 8 ^ (i + 1) = v / 8 ^ i / 8 := by rw [pow_succ, Nat.div_div_eq_div_mul]
    have hrest := ih (i := i + 1) hc' (by rw [hnext]; omega)
    rw [hnext] at hrest
    rw [Finset.sum_range_succ', hcons]
    simp only [List.getD_cons_succ, List.getD_cons_zero, pow_succ, ← mul_assoc, ← Finset.sum_mul, hrest, pow_zero, mul_one]
    omega

/-- Digits in -4 .. 3 keep their base-8 sum between four and three sevenths of the next power of 8. -/
theorem signedDigits_sum_bounds {r : Nat → Int} {n : Nat} (hr : ∀ i < n, -4 ≤ r i ∧ r i ≤ 3) :
    -4 * 8 ^ n ≤ 7 * ∑ i ∈ Finset.range n, r i * 8 ^ i ∧ 7 * ∑ i ∈ Finset.range n, r i * 8 ^ i ≤ 3 * 8 ^ n := by
  induction n with
  | zero => simp
  | succ n ih =>
    obtain ⟨hlo, hhi⟩ := ih fun i hi => hr i (hi.trans n.lt_succ_self)
    obtain ⟨hrlo, hrhi⟩ := hr n n.lt_succ_self
    have hpow : (0 : Int) ≤ 8 ^ n := by positivity
    have hlow := mul_le_mul_of_nonneg_right hrlo hpow
    have hhigh := mul_le_mul_of_nonneg_right hrhi hpow
    rw [Finset.sum_range_succ, pow_succ]
    constructor <;> linarith

theorem window3_range (v : Nat) {i : Nat} (hi : i < 84) : -4 ≤ (window3 v).getD i 0 ∧ (window3 v).getD i 0 ≤ 3 :=
  window3From_range v (Nat.zero_le 1) hi

theorem window3_sum {v : Nat} (hv : v < ell) : ∑ i ∈ Finset.range 85, (window3 v).getD i 0 * 8 ^ i = v := by
  have hlt : v / 8 ^ 0 < 8 ^ 85 := by rw [pow_zero, Nat.div_one]; exact hv.trans (by decide +kernel)
  simpa [window3] using window3From_sum v (Nat.zero_le 1) hlt

/-- The last digit is 0 or 1: the other digits are too small for their sum with any other last digit to be a scalar, since
l is just above 8^84 (42_sc25519.md R177). -/
theorem window3_top {v : Nat} (hv : v < ell) : (window3 v).getD 84 0 = 0 ∨ (window3 v).getD 84 0 = 1 := by
  have hsum := window3_sum hv
  rw [Finset.sum_range_succ] at hsum
  obtain ⟨hlo, hhi⟩ := signedDigits_sum_bounds fun _ hi => window3_range v hi
  have hell : 7 * ell < 10 * 8 ^ 84 := by decide +kernel
  omega

/-- A signed number that fits in a byte is read back from it (00_scope.md R12). -/
theorem signed8_ofInt {x : Int} (hlo : -128 ≤ x) (hhi : x < 128) : signed8 (BitVec.ofInt 8 x) = x := by
  rw [signed8, BitVec.toNat_ofInt]
  split <;> omega

/-- Each of the digits fits in a byte. -/
theorem signed8_window3 {v i : Nat} (hv : v < ell) (hi : i < 85) :
    signed8 (BitVec.ofInt 8 ((window3 v).getD i 0)) = (window3 v).getD i 0 := by
  rcases Nat.lt_succ_iff_lt_or_eq.1 hi with hlow | rfl
  · have hrange := window3_range v hlow
    exact signed8_ofInt (by omega) (by omega)
  · have htop := window3_top hv
    exact signed8_ofInt (by omega) (by omega)

/-! ## Interleaved base-4 digits -/

/-- The lowest `n` digits of a number in base `b` sum to its residue modulo `b ^ n`. -/
theorem sum_digits (v b n : Nat) : ∑ i ∈ Finset.range n, v / b ^ i % b * b ^ i = v % b ^ n := by
  induction n with
  | zero => simp [Nat.mod_one]
  | succ n ih => rw [Finset.sum_range_succ, ih, Nat.mod_pow_succ, mul_comm]

/-- The 127 base-4 digits of a scalar are the scalar (42_sc25519.md R178). -/
theorem sum_digits4_of_lt_ell {v : Nat} (hv : v < ell) : ∑ i ∈ Finset.range 127, v / 4 ^ i % 4 * 4 ^ i = v := by
  rw [sum_digits, Nat.mod_eq_of_lt (hv.trans (by decide +kernel))]

theorem interleave2_getD (v w : Nat) {i : Nat} (hi : i < 127) :
    (interleave2 v w).getD i 0 = v / 4 ^ i % 4 + 4 * (w / 4 ^ i % 4) := by
  rw [List.getD_eq_getElem _ _ (by simpa using hi)]
  simp [interleave2]

/-- A nibble is below 16, so its byte holds it. -/
theorem interleave2_getD_lt (v w : Nat) {i : Nat} (hi : i < 127) : (interleave2 v w).getD i 0 < 256 := by
  rw [interleave2_getD v w hi]
  omega

/-! ## The obligations -/

/-- Settles O37: the bytes loaded are reduced, and the bytes stored are read back. -/
theorem scalarLoadAndStore : Obligations.ScalarLoadAndStore := by
  intro s
  refine ⟨fun d a => ⟨fun h32 => ?_, fun h64 => ?_⟩, fun d a hinv ha hrange => ?_⟩
  · exact scalarWrite_result (scalarLoad_finish (State.inRange_iff.2 (.inr h32))) (Nat.mod_lt _ ell_pos)
  · exact scalarWrite_result (scalarLoad_finish (State.inRange_iff.2 (.inr h64))) (Nat.mod_lt _ ell_pos)
  · have hq : s.inRange (s.xVal d) 32 = true := State.inRange_iff.2 (.inr hrange)
    have hv : s.S[a].value < ell := lt_of_below (hinv.scalars a) ha
    exact ⟨_, exec_scTo32 ha hq, (Effect.mem hq (leBytes_length 32 _)).completes,
      leVal_readBytes_writeBytes s.DMEM _ (lt_pow_of_lt_ell hv)⟩

/-- Settles O38: the operands are read before the one write, so coinciding registers make no difference. -/
theorem scalarArithmetic : Obligations.ScalarArithmetic := by
  intro s d a b ha hb
  refine ⟨?add, ?mul⟩
  case add => exact scalarWrite_result (scalarBinary_finish (fun x y => (x + y) % ell) ha hb) (Nat.mod_lt _ ell_pos)
  case mul => exact scalarWrite_result (scalarBinary_finish (fun x y => x * y % ell) ha hb) (Nat.mod_lt _ ell_pos)

/-- Settles O39: the digits are those of `window3`. -/
theorem window3Digits : Obligations.Window3Digits := by
  intro s d a hinv ha hrange
  have hq : s.inRange (s.xVal d) 85 = true := State.inRange_iff.2 (.inr hrange)
  have hv : s.S[a].value < ell := lt_of_below (hinv.scalars a) ha
  obtain ⟨t, ht, hc, hread⟩ := digitStore_result _ 0 (exec_scWindow3 ha hq) (window3_length _) hq
  refine ⟨t, fun i => (window3 s.S[a].value).getD i 0, ht, hc, fun i hi => ?_, fun i hi => window3_range _ hi,
    window3_top hv, window3_sum hv⟩
  rw [hread i hi, signed8_window3 hv hi]

/-- Settles O40: the nibbles are those of `interleave2`, and each holds a base-4 digit of either scalar. -/
theorem interleavedDigits : Obligations.InterleavedDigits := by
  intro s d a b hinv ha hb hrange
  have hq : s.inRange (s.xVal d) 127 = true := State.inRange_iff.2 (.inr hrange)
  obtain ⟨t, ht, hc, hread⟩ := digitStore_result _ 0 (exec_scIntlv2 ha hb hq) (interleave2_length _ _) hq
  refine ⟨t, fun i => s.S[a].value / 4 ^ i % 4 + 4 * (s.S[b].value / 4 ^ i % 4), ht, hc, fun i hi => ⟨?byte, rfl⟩,
    ?low, ?high⟩
  case byte =>
    rw [hread i hi, BitVec.toNat_ofNat, Nat.mod_eq_of_lt (interleave2_getD_lt _ _ hi), interleave2_getD _ _ hi]
  case low =>
    simp only [Nat.add_mul_mod_self_left, Nat.mod_mod, sum_digits4_of_lt_ell (lt_of_below (hinv.scalars a) ha)]
  case high =>
    have hhigh (x y : Nat) : (x % 4 + 4 * y) / 4 = y := by omega
    simp only [hhigh, sum_digits4_of_lt_ell (lt_of_below (hinv.scalars b) hb)]

end Sys2Proof.Machine

/-! # The curve over a field

The algebra of 43_ge25519.md R190 and R191 over any field `K`, away from the machine: on pairs of coordinates that satisfy the
curve equation, the law is complete where d is not a square, and it makes a commutative group. -/

namespace Sys2Proof.Machine.Edwards

variable {K : Type} [Field K] {d : K} {P Q R : K × K}

/-- The curve equation `-x^2 + y^2 = 1 + d x^2 y^2` (43_ge25519.md R190). -/
def OnE (d : K) (P : K × K) : Prop := -P.1 ^ 2 + P.2 ^ 2 = 1 + d * P.1 ^ 2 * P.2 ^ 2

/-- `d x1 x2 y1 y2`, the `k` of the law (43_ge25519.md R191). -/
def prodK (d : K) (P Q : K × K) : K := d * P.1 * Q.1 * P.2 * Q.2

/-- The numerator of x3 (43_ge25519.md R191). -/
def numX (P Q : K × K) : K := P.1 * Q.2 + Q.1 * P.2

/-- The numerator of y3 (43_ge25519.md R191). -/
def numY (P Q : K × K) : K := P.2 * Q.2 + P.1 * Q.1

/-- The law (43_ge25519.md R191). -/
def sum (d : K) (P Q : K × K) : K × K := (numX P Q / (1 + prodK d P Q), numY P Q / (1 - prodK d P Q))

/-- The law is complete: `1 + k` and `1 - k` are never 0 for points of the curve (43_ge25519.md R191). -/
def Complete (d : K) : Prop := ∀ P Q : K × K, OnE d P → OnE d Q → 1 + prodK d P Q ≠ 0 ∧ 1 - prodK d P Q ≠ 0

/-! ## Completeness -/

/-- If `k^2 = 1`, then d is a square, unless `y2 + i x2 = 0`. -/
theorem isSquare_of_prodK {i : K} (hi : i ^ 2 = -1) (hP : OnE d P) (hQ : OnE d Q) (hk : prodK d P Q ^ 2 = 1)
    (h : Q.2 + i * Q.1 ≠ 0) : IsSquare d := by
  obtain ⟨x1, y1⟩ := P
  obtain ⟨x2, y2⟩ := Q
  simp only [OnE, prodK] at *
  have hx : x1 ≠ 0 := by rintro rfl; simp at hk
  have hy : y1 ≠ 0 := by rintro rfl; simp at hk
  have hne : x1 * y1 * (y2 + i * x2) ≠ 0 := mul_ne_zero (mul_ne_zero hx hy) h
  refine ⟨(y1 + d * x1 * x2 * y1 * y2 * i * x1) / (x1 * y1 * (y2 + i * x2)), ?_⟩
  rw [div_mul_div_comm, eq_div_iff (mul_ne_zero hne hne)]
  linear_combination (d * x1 ^ 2 * y1 ^ 2 * x2 ^ 2 - (d * x1 * x2 * y1 * y2) ^ 2 * x1 ^ 2) * hi +
    d * x1 ^ 2 * y1 ^ 2 * hQ - hP + (1 + x1 ^ 2) * hk

/-- The law is complete where -1 is a square and d is not (43_ge25519.md R191): of `y2 + i x2` and `y2 - i x2`, whose sum is
`2 y2`, one is not 0. -/
theorem complete_of_not_isSquare {i : K} (hi : i ^ 2 = -1) (h2 : (2 : K) ≠ 0) (hd : ¬IsSquare d) : Complete d := by
  intro P Q hP hQ
  have hsq : prodK d P Q ^ 2 ≠ 1 := by
    intro hk
    have hplus : Q.2 + i * Q.1 = 0 := by_contra fun h => hd (isSquare_of_prodK hi hP hQ hk h)
    have hminus : Q.2 + -i * Q.1 = 0 :=
      by_contra fun h => hd (isSquare_of_prodK ((neg_sq i).trans hi) hP hQ hk h)
    have hy : Q.2 = 0 := (mul_eq_zero.1 (by linear_combination hplus + hminus : 2 * Q.2 = 0)).resolve_left h2
    simp [prodK, hy] at hk
  exact ⟨fun h => hsq (by linear_combination (prodK d P Q - 1) * h),
    fun h => hsq (by linear_combination (-prodK d P Q - 1) * h)⟩

/-- `d y^2 + 1` is never 0 where -1 is a square and d is not (43_ge25519.md R190). -/
theorem mul_sq_add_one_ne_zero {i : K} (hi : i ^ 2 = -1) (hd : ¬IsSquare d) (y : K) : d * y ^ 2 + 1 ≠ 0 := by
  intro h
  have hy : y ≠ 0 := by rintro rfl; simp at h
  refine hd ⟨i / y, ?_⟩
  field_simp
  linear_combination h - hi

/-! ## The group laws -/

theorem OnE.neg (h : OnE d P) : OnE d (-P.1, P.2) := by simpa [OnE] using h

theorem sum_comm (d : K) (P Q : K × K) : sum d P Q = sum d Q P := by
  have hk : prodK d P Q = prodK d Q P := by simp only [prodK]; ring
  have hx : numX P Q = numX Q P := add_comm _ _
  have hy : numY P Q = numY Q P := by simp only [numY]; ring
  simp only [sum, hk, hx, hy]

theorem sum_neutral (d : K) (P : K × K) : sum d P (0, 1) = P := by simp [sum, prodK, numX, numY]

/-- The curve equation of a sum, without division. -/
theorem onE_num (hP : OnE d P) (hQ : OnE d Q) :
    -(numX P Q * (1 - prodK d P Q)) ^ 2 + (numY P Q * (1 + prodK d P Q)) ^ 2 =
      (1 - prodK d P Q ^ 2) ^ 2 + d * numX P Q ^ 2 * numY P Q ^ 2 := by
  obtain ⟨x1, y1⟩ := P
  obtain ⟨x2, y2⟩ := Q
  simp only [OnE, numX, numY, prodK] at *
  linear_combination
    (d ^ 3 * x1 ^ 2 * y1 ^ 2 * x2 ^ 4 * y2 ^ 4 - d * x2 ^ 2 * y2 ^ 2 * (y1 ^ 2 - x1 ^ 2 + y2 ^ 2 - x2 ^ 2 + 1) +
      (x2 ^ 2 - y2 ^ 2) ^ 2) * hP +
    (1 - (x1 ^ 2 - y1 ^ 2 + 1) * (d ^ 2 * x1 ^ 2 * y1 ^ 2 * x2 ^ 2 * y2 ^ 2 + x2 ^ 2 - y2 ^ 2)) * hQ

/-- The numerator of the x coordinate of (P + Q) + R, when the denominators of P + Q are cleared. -/
def tripleX (d : K) (P Q R : K × K) : K := numX P Q * (1 - prodK d P Q) * R.2 + numY P Q * (1 + prodK d P Q) * R.1

/-- The numerator of its y coordinate. -/
def tripleY (d : K) (P Q R : K × K) : K := numY P Q * (1 + prodK d P Q) * R.2 + numX P Q * (1 - prodK d P Q) * R.1

/-- The `k` of (P + Q) + R, when the denominators of P + Q are cleared. -/
def tripleK (d : K) (P Q R : K × K) : K := d * numX P Q * numY P Q * R.1 * R.2

/-- What is left of the curve equation at P; 0 on the curve. -/
def defect (d : K) (P : K × K) : K := P.1 ^ 2 - P.2 ^ 2 + 1 + d * P.1 ^ 2 * P.2 ^ 2

theorem OnE.defect_eq_zero (h : OnE d P) : defect d P = 0 := by
  simp only [OnE, defect] at *
  linear_combination -h

/-- A polynomial in Q and R, with c one of 1 and -1, of which the coefficients of the associativity identities are made. -/
def assocCoeff (d c : K) (Q R : K × K) : K :=
  d * Q.1 ^ 2 * Q.2 ^ 2 * R.1 * R.2 * (Q.1 * R.1 + Q.2 * R.2) + R.1 * R.2 * (Q.1 ^ 3 * R.1 - Q.2 ^ 3 * R.2) +
    Q.1 * Q.2 * (Q.1 * R.1 * (R.1 ^ 2 + c) - Q.2 * R.2 * (R.2 ^ 2 - c))

/-- The coefficient of the defect of an outer summand, which enters by the coordinates `x` and `y`. -/
def outerCoeff (d x y : K) (Q R : K × K) : K := x * assocCoeff d 1 Q R - y * assocCoeff d (-1) Q (R.2, R.1)

/-- Half the coefficient of the defect of the middle summand, from the coordinates of an outer summand. -/
def middleCoeff (P : K × K) (u v : K) : K := (P.1 ^ 2 + 1) * P.1 * u + (P.2 ^ 2 - 1) * P.2 * v

/-- The x coordinates of (P + Q) + R and P + (Q + R) differ by a combination of the three curve equations. -/
theorem tripleX_identity (d : K) (P Q R : K × K) :
    tripleX d P Q R * (1 - prodK d Q R ^ 2 + tripleK d Q R P) -
        tripleX d Q R P * (1 - prodK d P Q ^ 2 + tripleK d P Q R) =
      d * Q.1 * Q.2 * (outerCoeff d P.1 P.2 Q R * defect d P - outerCoeff d R.1 R.2 Q P * defect d R +
        (P.1 * P.2 * middleCoeff R (numY P Q) (numX P Q) - R.1 * R.2 * middleCoeff P (numY Q R) (numX Q R)) *
          defect d Q) := by
  simp only [tripleX, tripleK, numX, numY, prodK, outerCoeff, assocCoeff, middleCoeff, defect]
  ring

/-- The y coordinates of (P + Q) + R and P + (Q + R) differ by a combination of the three curve equations. -/
theorem tripleY_identity (d : K) (P Q R : K × K) :
    tripleY d P Q R * (1 - prodK d Q R ^ 2 - tripleK d Q R P) -
        tripleY d Q R P * (1 - prodK d P Q ^ 2 - tripleK d P Q R) =
      d * Q.1 * Q.2 * (outerCoeff d P.2 P.1 Q R * defect d P - outerCoeff d R.2 R.1 Q P * defect d R +
        (R.1 * R.2 * middleCoeff P (numX Q R) (numY Q R) - P.1 * P.2 * middleCoeff R (numX P Q) (numY P Q)) *
          defect d Q) := by
  simp only [tripleY, tripleK, numX, numY, prodK, outerCoeff, assocCoeff, middleCoeff, defect]
  ring

theorem tripleX_assoc (hP : OnE d P) (hQ : OnE d Q) (hR : OnE d R) :
    tripleX d P Q R * (1 - prodK d Q R ^ 2 + tripleK d Q R P) =
      tripleX d Q R P * (1 - prodK d P Q ^ 2 + tripleK d P Q R) := by
  rw [← sub_eq_zero, tripleX_identity, hP.defect_eq_zero, hQ.defect_eq_zero, hR.defect_eq_zero]
  ring

theorem tripleY_assoc (hP : OnE d P) (hQ : OnE d Q) (hR : OnE d R) :
    tripleY d P Q R * (1 - prodK d Q R ^ 2 - tripleK d Q R P) =
      tripleY d Q R P * (1 - prodK d P Q ^ 2 - tripleK d P Q R) := by
  rw [← sub_eq_zero, tripleY_identity, hP.defect_eq_zero, hQ.defect_eq_zero, hR.defect_eq_zero]
  ring

namespace Complete

/-- The sum, without division. -/
theorem sum_mul (hc : Complete d) (hP : OnE d P) (hQ : OnE d Q) :
    (sum d P Q).1 * (1 + prodK d P Q) = numX P Q ∧ (sum d P Q).2 * (1 - prodK d P Q) = numY P Q :=
  ⟨div_mul_cancel₀ _ (hc P Q hP hQ).1, div_mul_cancel₀ _ (hc P Q hP hQ).2⟩

/-- The law is closed (43_ge25519.md R191). -/
theorem onE_sum (hc : Complete d) (hP : OnE d P) (hQ : OnE d Q) : OnE d (sum d P Q) := by
  obtain ⟨hplus, hminus⟩ := hc P Q hP hQ
  obtain ⟨hx, hy⟩ := hc.sum_mul hP hQ
  have hnum := onE_num hP hQ
  rw [← hx, ← hy] at hnum
  have hne : ((1 + prodK d P Q) * (1 - prodK d P Q)) ^ 2 ≠ 0 := pow_ne_zero 2 (mul_ne_zero hplus hminus)
  refine mul_left_cancel₀ hne ?_
  linear_combination hnum

/-- `(-x, y)` is the negative of `(x, y)` (43_ge25519.md R191). -/
theorem sum_neg (hc : Complete d) (hP : OnE d P) : sum d P (-P.1, P.2) = (0, 1) := by
  obtain ⟨-, hminus⟩ := hc P (-P.1, P.2) hP hP.neg
  have hx : numX P (-P.1, P.2) = 0 := by simp only [numX]; ring
  have hy : numY P (-P.1, P.2) = 1 - prodK d P (-P.1, P.2) := by
    simp only [OnE, numY, prodK] at *
    linear_combination hP
  rw [sum, hx, hy, zero_div, div_self hminus]

/-- What is cleared of denominators is not 0. -/
theorem one_sub_sq_ne_zero (hc : Complete d) (hP : OnE d P) (hQ : OnE d Q) : 1 - prodK d P Q ^ 2 ≠ 0 := by
  obtain ⟨hplus, hminus⟩ := hc P Q hP hQ
  have hsq : 1 - prodK d P Q ^ 2 = (1 + prodK d P Q) * (1 - prodK d P Q) := by ring
  rw [hsq]
  exact mul_ne_zero hplus hminus

theorem tripleX_eq (hc : Complete d) (hP : OnE d P) (hQ : OnE d Q) (R : K × K) :
    tripleX d P Q R = (1 - prodK d P Q ^ 2) * numX (sum d P Q) R := by
  obtain ⟨hx, hy⟩ := hc.sum_mul hP hQ
  rw [tripleX, ← hx, ← hy, numX]
  ring

theorem tripleY_eq (hc : Complete d) (hP : OnE d P) (hQ : OnE d Q) (R : K × K) :
    tripleY d P Q R = (1 - prodK d P Q ^ 2) * numY (sum d P Q) R := by
  obtain ⟨hx, hy⟩ := hc.sum_mul hP hQ
  rw [tripleY, ← hx, ← hy, numY]
  ring

theorem tripleK_eq (hc : Complete d) (hP : OnE d P) (hQ : OnE d Q) (R : K × K) :
    tripleK d P Q R = (1 - prodK d P Q ^ 2) * prodK d (sum d P Q) R := by
  obtain ⟨hx, hy⟩ := hc.sum_mul hP hQ
  have hk : prodK d (sum d P Q) R = d * (sum d P Q).1 * R.1 * (sum d P Q).2 * R.2 := rfl
  rw [tripleK, ← hx, ← hy, hk]
  ring

/-- The law is associative (43_ge25519.md R191): the two sums have the same cleared numerators over the same denominators. -/
theorem sum_assoc (hc : Complete d) (hP : OnE d P) (hQ : OnE d Q) (hR : OnE d R) :
    sum d (sum d P Q) R = sum d P (sum d Q R) := by
  obtain ⟨hplusL, hminusL⟩ := hc _ _ (hc.onE_sum hP hQ) hR
  obtain ⟨hplusR, hminusR⟩ := hc _ _ (hc.onE_sum hQ hR) hP
  have hne := mul_ne_zero (hc.one_sub_sq_ne_zero hP hQ) (hc.one_sub_sq_ne_zero hQ hR)
  have hx := tripleX_assoc hP hQ hR
  have hy := tripleY_assoc hP hQ hR
  rw [hc.tripleX_eq hP hQ, hc.tripleX_eq hQ hR, hc.tripleK_eq hP hQ, hc.tripleK_eq hQ hR] at hx
  rw [hc.tripleY_eq hP hQ, hc.tripleY_eq hQ hR, hc.tripleK_eq hP hQ, hc.tripleK_eq hQ hR] at hy
  rw [sum_comm d P (sum d Q R)]
  refine Prod.ext ((div_eq_div_iff hplusL hplusR).2 ?_) ((div_eq_div_iff hminusL hminusR).2 ?_)
  · exact mul_left_cancel₀ hne (by linear_combination hx)
  · exact mul_left_cancel₀ hne (by linear_combination hy)

end Complete

end Sys2Proof.Machine.Edwards

/-! # The points of E

The model's points are pairs of canonical residues: their coordinates in `ZMod p` carry the law of 43_ge25519.md R191 to the
algebra above. So the points of E are a commutative group, in which `Point.smul` is the multiple. -/

namespace Sys2Proof.Machine

variable {q r t : Point}

/-! ## The constants -/

/-- 43_ge25519.md R193. -/
theorem sqrtM1_sq : (sqrtM1 : ZMod p) ^ 2 = -1 := by
  have hval : fMul sqrtM1 sqrtM1 = p - 1 := by decide +kernel
  rw [sq, ← fMul_cast, hval, Nat.cast_pred p_pos, ZMod.natCast_self, zero_sub]

theorem two_ne_zero_zmod : (2 : ZMod p) ≠ 0 := by
  intro h
  have hval : 2 = 0 := eq_of_cast_eq (by decide +kernel) p_pos (by exact_mod_cast h)
  exact absurd hval (by decide)

section
variable [Fact p.Prime]

/-- d is not a square (43_ge25519.md R190), by Euler's criterion. -/
theorem not_isSquare_edwardsD : ¬IsSquare (edwardsD : ZMod p) := by
  have hval : powMod p edwardsD (p / 2) = p - 1 := by decide +kernel
  have hpow : (edwardsD : ZMod p) ^ (p / 2) = -1 := by
    rw [← powMod_cast, hval, Nat.cast_pred p_pos, ZMod.natCast_self, zero_sub]
  have hne : (edwardsD : ZMod p) ≠ 0 := by
    intro h
    rw [h, zero_pow (by decide +kernel)] at hpow
    exact neg_ne_zero.2 one_ne_zero hpow.symm
  rw [ZMod.euler_criterion p hne, hpow]
  intro h
  exact two_ne_zero_zmod (by linear_combination -h)

/-- The law is complete on E (43_ge25519.md R191). -/
theorem edwardsD_complete : Edwards.Complete (edwardsD : ZMod p) :=
  Edwards.complete_of_not_isSquare sqrtM1_sq two_ne_zero_zmod not_isSquare_edwardsD

end

/-! ## Coordinates in the field -/

/-- The coordinates of a point, in GF(p). -/
def Point.coords (q : Point) : ZMod p × ZMod p := (q.x, q.y)

theorem Point.eq_of_coords_eq (hq : q.canonical) (hr : r.canonical) (h : q.coords = r.coords) : q = r := by
  obtain ⟨hqx, hqy⟩ := hq
  obtain ⟨hrx, hry⟩ := hr
  obtain ⟨hx, hy⟩ := Prod.mk.inj h
  obtain ⟨x, y⟩ := q
  rw [Point.mk.injEq]
  exact ⟨eq_of_cast_eq hqx hrx hx, eq_of_cast_eq hqy hry hy⟩

/-- `d x1 x2 y1 y2` (43_ge25519.md R191). -/
theorem Point.lawK_cast (q r : Point) : (q.lawK r : ZMod p) = (edwardsD : ZMod p) * q.x * r.x * q.y * r.y := by
  simp only [Point.lawK, fMul_cast]
  ring

theorem Point.coords_neutral : Point.neutral.coords = (0, 1) := by simp [Point.coords, Point.neutral]

theorem Point.coords_neg (hq : q.canonical) : q.neg.coords = (-q.coords.1, q.coords.2) := by
  simp [Point.coords, Point.neg, Nat.cast_sub hq.1.le]

section
variable [Fact p.Prime]

/-- The model's law is the law over GF(p) (43_ge25519.md R191). -/
theorem Point.coords_add (q r : Point) : (q.add r).coords = Edwards.sum (edwardsD : ZMod p) q.coords r.coords := by
  have hk : Edwards.prodK (edwardsD : ZMod p) q.coords r.coords = q.lawK r := (Point.lawK_cast q r).symm
  rw [Edwards.sum, hk]
  simp [Point.add, Point.coords, Edwards.numX, Edwards.numY, div_eq_mul_inv]

/-- The points of E are the canonical points on the curve over GF(p) (43_ge25519.md R190). -/
theorem Point.onCurve_iff : q.onCurve = true ↔ q.canonical ∧ Edwards.OnE (edwardsD : ZMod p) q.coords := by
  simp only [Point.onCurve, Bool.and_eq_true, decide_eq_true_eq, beq_iff_eq, Point.canonical, Edwards.OnE, Point.coords]
  rw [← cast_eq_iff (fSub_lt _ _) (fAdd_lt _ _)]
  simp only [fSub_cast, fAdd_cast, fMul_cast, Nat.cast_one]
  refine and_congr_right fun _ => ⟨fun h => ?_, fun h => ?_⟩
  · linear_combination h
  · linear_combination h

end

/-! ## The group -/

theorem Point.canonical_of_onCurve (hq : q.onCurve = true) : q.canonical := by
  have : Fact p.Prime := ⟨p_prime⟩
  exact (Point.onCurve_iff.1 hq).1

theorem Point.neutral_onCurve : Point.neutral.onCurve = true := by decide +kernel

theorem Point.base_onCurve : Point.base.onCurve = true := by decide +kernel

theorem Point.neg_onCurve (hq : q.onCurve = true) : q.neg.onCurve = true := by
  have : Fact p.Prime := ⟨p_prime⟩
  obtain ⟨hcan, hE⟩ := Point.onCurve_iff.1 hq
  exact Point.onCurve_iff.2 ⟨⟨Nat.mod_lt _ p_pos, hcan.2⟩, Point.coords_neg hcan ▸ hE.neg⟩

/-- The law is closed (43_ge25519.md R191). -/
theorem Point.add_onCurve (hq : q.onCurve = true) (hr : r.onCurve = true) : (q.add r).onCurve = true := by
  have : Fact p.Prime := ⟨p_prime⟩
  rw [Point.onCurve_iff] at *
  exact ⟨Point.add_canonical q r, Point.coords_add q r ▸ edwardsD_complete.onE_sum hq.2 hr.2⟩

theorem Point.add_comm (q r : Point) : q.add r = r.add q := by
  have : Fact p.Prime := ⟨p_prime⟩
  refine Point.eq_of_coords_eq (Point.add_canonical q r) (Point.add_canonical r q) ?_
  rw [Point.coords_add, Point.coords_add, Edwards.sum_comm]

theorem Point.add_neutral (hq : q.canonical) : q.add Point.neutral = q := by
  have : Fact p.Prime := ⟨p_prime⟩
  refine Point.eq_of_coords_eq (Point.add_canonical q _) hq ?_
  rw [Point.coords_add, Point.coords_neutral, Edwards.sum_neutral]

theorem Point.add_neg (hq : q.onCurve = true) : q.add q.neg = Point.neutral := by
  have : Fact p.Prime := ⟨p_prime⟩
  obtain ⟨hcan, hE⟩ := Point.onCurve_iff.1 hq
  refine Point.eq_of_coords_eq (Point.add_canonical q _) Point.neutral_canonical ?_
  rw [Point.coords_add, Point.coords_neg hcan, edwardsD_complete.sum_neg hE, Point.coords_neutral]

theorem Point.add_assoc (hq : q.onCurve = true) (hr : r.onCurve = true) (ht : t.onCurve = true) :
    (q.add r).add t = q.add (r.add t) := by
  have : Fact p.Prime := ⟨p_prime⟩
  refine Point.eq_of_coords_eq (Point.add_canonical _ t) (Point.add_canonical q _) ?_
  rw [Point.onCurve_iff] at hq hr ht
  simp only [Point.coords_add]
  exact edwardsD_complete.sum_assoc hq.2 hr.2 ht.2

/-- The points of E (43_ge25519.md R190). -/
@[ext] structure CurvePoint where
  point : Point
  onCurve : point.onCurve = true

/-- The points of E under the law of 43_ge25519.md R191. -/
@[reducible] def curveGroup : AddCommGroup CurvePoint :=
  letI : Add CurvePoint := ⟨fun q r => ⟨q.point.add r.point, Point.add_onCurve q.onCurve r.onCurve⟩⟩
  letI : Zero CurvePoint := ⟨⟨Point.neutral, Point.neutral_onCurve⟩⟩
  letI : Neg CurvePoint := ⟨fun q => ⟨q.point.neg, Point.neg_onCurve q.onCurve⟩⟩
  { AddGroup.ofRightAxioms (G := CurvePoint)
      (fun q r t => CurvePoint.ext (Point.add_assoc q.onCurve r.onCurve t.onCurve))
      (fun q => CurvePoint.ext (Point.add_neutral (Point.canonical_of_onCurve q.onCurve)))
      (fun q => CurvePoint.ext (Point.add_neg q.onCurve)) with
    add_comm := fun q r => CurvePoint.ext (Point.add_comm q.point r.point) }

/-! ## Multiples -/

/-- The integer multiple of a point of E, as a point. -/
def CurvePoint.multiple (q : CurvePoint) (z : Int) : Point :=
  letI := curveGroup
  (z • q).point

namespace CurvePoint

variable (q : CurvePoint)

theorem multiple_onCurve (z : Int) : (q.multiple z).onCurve = true :=
  letI := curveGroup
  (z • q).onCurve

theorem multiple_zero : q.multiple 0 = Point.neutral :=
  letI := curveGroup
  congrArg CurvePoint.point (zero_zsmul q)

theorem multiple_one : q.multiple 1 = q.point :=
  letI := curveGroup
  congrArg CurvePoint.point (one_zsmul q)

theorem multiple_add (y z : Int) : q.multiple (y + z) = (q.multiple y).add (q.multiple z) :=
  letI := curveGroup
  congrArg CurvePoint.point (add_zsmul q y z)

theorem multiple_neg (z : Int) : q.multiple (-z) = (q.multiple z).neg :=
  letI := curveGroup
  congrArg CurvePoint.point (neg_zsmul q z)

/-- Doubling and adding gives the multiple (log 8). -/
theorem smulStep_eq {n k : Nat} (h : k < 2 ^ n) : Point.smulStep n k q.point = q.multiple k := by
  induction n generalizing k with
  | zero =>
    obtain rfl : k = 0 := by simpa using h
    exact q.multiple_zero.symm
  | succ n ih =>
    have hhalf : k / 2 < 2 ^ n := by rw [pow_succ] at h; omega
    have hdouble : (q.multiple (k / 2 : Nat)).add (q.multiple (k / 2 : Nat)) = q.multiple (k / 2 * 2 : Nat) := by
      rw [← multiple_add, mul_two, Nat.cast_add]
    rw [Point.smulStep, ih hhalf]
    split_ifs with h0 hodd
    · rw [h0]
      exact q.multiple_zero.symm
    · simp only [hdouble]
      rw [← q.multiple_one, ← multiple_add]
      congr 1
      omega
    · simp only [hdouble]
      congr 1
      omega

theorem smul_eq (k : Nat) : Point.smul k q.point = q.multiple k := q.smulStep_eq Nat.lt_log2_self

end CurvePoint

/-- A multiple of a point of E is on E. -/
theorem Point.smul_onCurve (hq : q.onCurve = true) (k : Nat) : (Point.smul k q).onCurve = true :=
  CurvePoint.smul_eq ⟨q, hq⟩ k ▸ CurvePoint.multiple_onCurve _ _

/-! ## The obligations -/

/-- Settles O19: by the completeness of the law, since -1 is a square in GF(p) and d is not. -/
theorem curveDenominatorsNeverVanish : Obligations.CurveDenominatorsNeverVanish := by
  have : Fact p.Prime := ⟨p_prime⟩
  refine ⟨fun y h => ?den, fun q r hq hr => ?law⟩
  case den =>
    have hcast : ((edwardsD * (y * y) + 1 : Nat) : ZMod p) = 0 := by rw [← ZMod.natCast_mod, h, Nat.cast_zero]
    push_cast at hcast
    exact Edwards.mul_sq_add_one_ne_zero sqrtM1_sq not_isSquare_edwardsD (y : ZMod p) (by linear_combination hcast)
  case law =>
    obtain ⟨hplus, hminus⟩ := edwardsD_complete _ _ (Point.onCurve_iff.1 hq).2 (Point.onCurve_iff.1 hr).2
    refine ⟨fun h => hplus ?_, fun h => hminus ?_⟩
    · have hcast : ((1 + edwardsD * q.x * r.x * q.y * r.y : Nat) : ZMod p) = 0 := by
        rw [← ZMod.natCast_mod, h, Nat.cast_zero]
      push_cast at hcast
      exact hcast
    · have hcast : ((edwardsD * q.x * r.x * q.y * r.y : Nat) : ZMod p) = 1 := by
        rw [← ZMod.natCast_mod, h, Nat.cast_one]
      push_cast at hcast
      exact sub_eq_zero.2 hcast.symm

/-- Settles O20: by the laws of the group. -/
theorem curveLawHoldsOnPoints : Obligations.CurveLawHoldsOnPoints := fun q r hq hr =>
  ⟨Point.add_onCurve hq hr, Point.add_comm q r, Point.add_neutral (Point.canonical_of_onCurve hq), Point.add_neg hq⟩

/-- Settles O21: both sides are multiples of the point, in the group. -/
theorem multiplesAreRepeatedSums : Obligations.MultiplesAreRepeatedSums := by
  intro q hq
  refine ⟨rfl, fun k => ?_⟩
  have hsmul := CurvePoint.smul_eq ⟨q, hq⟩
  rw [hsmul, hsmul, Nat.cast_succ, CurvePoint.multiple_add, CurvePoint.multiple_one]

end Sys2Proof.Machine

/-! # The point codec

Whether a root exists is Euler's criterion on the candidate of 43_ge25519.md R193 (log 9): its square times `den` is `num` up to
sign, and the square root of -1 mends the sign. -/

namespace Sys2Proof.Machine

/-! ## Square roots of ratios -/

/-- The candidate of 43_ge25519.md R193 in GF(p). -/
def candidate (num den : ZMod p) : ZMod p := num * den ^ 3 * (num * den ^ 7) ^ ((p - 5) / 8)

/-- If `num` is `x^2 den`, then the candidate's square times `den` is `num` times the quadratic character of `x den^4`. -/
theorem candidate_sq_mul {num den x : ZMod p} (hx : x ^ 2 * den = num) :
    candidate num den ^ 2 * den = num * (x * den ^ 4) ^ (p / 2) := by
  have he : p / 2 = 2 * ((p - 5) / 8 * 2 + 1) := by decide +kernel
  have hsq : num * den ^ 7 = (x * den ^ 4) ^ 2 := by rw [← hx]; ring
  rw [candidate, he, pow_mul (x * den ^ 4), ← hsq]
  generalize (p - 5) / 8 = e
  ring

/-- If there is a root, the candidate or its product with the square root of -1 is one (43_ge25519.md R193). -/
theorem candidate_isRoot {num den x : ZMod p} (hx : x ^ 2 * den = num) :
    candidate num den ^ 2 * den = num ∨ (candidate num den * sqrtM1) ^ 2 * den = num := by
  have : Fact p.Prime := ⟨p_prime⟩
  have hcand := candidate_sq_mul hx
  by_cases hzero : x * den ^ 4 = 0
  · have hnum : num = 0 := by
      rcases mul_eq_zero.1 hzero with h | h
      · rw [← hx, h, zero_pow two_ne_zero, zero_mul]
      · rw [← hx, eq_zero_of_pow_eq_zero h, mul_zero]
    exact .inl (by rw [hcand, hnum, zero_mul])
  · rcases ZMod.pow_div_two_eq_neg_one_or_one p hzero with h | h
    · exact .inl (by rw [hcand, h, mul_one])
    · refine .inr ?_
      rw [h] at hcand
      linear_combination candidate num den ^ 2 * den * sqrtM1_sq - hcand

theorem fMul_sq_eq_iff {num den r : Nat} (hnum : num < p) :
    fMul (fMul r r) den = num ↔ (r : ZMod p) ^ 2 * den = num := by
  rw [← cast_eq_iff (fMul_lt _ _) hnum, fMul_cast, fMul_cast, sq]

/-- What is found is a root. -/
theorem sqrtRatio_cast {num den r : Nat} (hnum : num < p) (h : sqrtRatio num den = some r) :
    (r : ZMod p) ^ 2 * den = num := by
  simp only [sqrtRatio] at h
  split_ifs at h with hfirst hsecond
  · cases h
    exact (fMul_sq_eq_iff hnum).1 hfirst
  · cases h
    exact (fMul_sq_eq_iff hnum).1 hsecond

/-- If there is a root, one is found (43_ge25519.md R193; log 9). -/
theorem sqrtRatio_complete {num den : Nat} (hnum : num < p) {x : ZMod p} (hx : x ^ 2 * den = num) :
    ∃ r, sqrtRatio num den = some r := by
  have h3 : (den : ZMod p) * den * den = den ^ 3 := by ring
  have h7 : (den : ZMod p) ^ 3 * den ^ 3 * den = den ^ 7 := by ring
  simp only [sqrtRatio, fMul_sq_eq_iff hnum, fMul_cast, fPow2523_cast, h3, h7]
  split_ifs with hfirst hsecond
  · exact ⟨_, rfl⟩
  · exact ⟨_, rfl⟩
  · exact ((candidate_isRoot hx).elim hfirst hsecond).elim

/-! ## The recovered coordinate -/

theorem curveNum_lt (y : Nat) : curveNum y < p := fSub_lt _ _

theorem curveNum_eq (y : Nat) : curveNum y = (y * y + (p - 1)) % p := by
  rw [curveNum, fSub, fMul, Nat.mod_eq_of_lt p_prime.one_lt, Nat.mod_add_mod]

theorem curveDen_eq (y : Nat) : curveDen y = (edwardsD * y * y + 1) % p := by
  rw [curveDen, fAdd, fMul, fMul, Nat.mul_mod_mod, Nat.mod_add_mod, mul_assoc]

/-- `x` is a root for `y` (43_ge25519.md R193). -/
def IsRoot (y x : Nat) : Prop := (x : ZMod p) ^ 2 * curveDen y = curveNum y

theorem isRoot_iff {y x : Nat} : IsRoot y x ↔ x * x * curveDen y % p = curveNum y := by
  rw [IsRoot, ← cast_eq_iff (Nat.mod_lt _ p_pos) (curveNum_lt y), ZMod.natCast_mod, Nat.cast_mul, Nat.cast_mul, sq]

theorem IsRoot.neg {y x : Nat} (h : IsRoot y x) (hx : x < p) : IsRoot y ((p - x) % p) := by
  rw [IsRoot, ZMod.natCast_mod, Nat.cast_sub hx.le, ZMod.natCast_self, zero_sub, neg_sq]
  exact h

/-- Where there is a root, the negated point's coordinate is recovered (43_ge25519.md R193). -/
theorem IsRoot.recoverNegX {y x : Nat} (h : IsRoot y x) (par : Nat) : ∃ x', recoverNegX y par = some x' := by
  obtain ⟨r, hr⟩ := sqrtRatio_complete (curveNum_lt y) h
  exact ⟨_, by rw [Machine.recoverNegX, hr]; rfl⟩

/-- Of a nonzero residue and its negative one is even and one is odd, since p is odd (43_ge25519.md R193). -/
theorem neg_mod_two {r : Nat} (hr : r < p) (h0 : r ≠ 0) : (p - r) % p % 2 = 1 - r % 2 := by
  have hodd : p % 2 = 1 := by decide +kernel
  rw [Nat.mod_eq_of_lt (Nat.sub_lt p_pos (Nat.pos_of_ne_zero h0))]
  generalize p = m at *
  omega

/-- What is recovered is the root of the parity asked for, and 0 where `num` is 0 (43_ge25519.md R193). -/
theorem recoverNegX_spec {y par x : Nat} (h : recoverNegX y par = some x) :
    IsRoot y x ∧ (curveNum y ≠ 0 → x % 2 = 1 - par) ∧ (curveNum y = 0 → x = 0) := by
  rw [recoverNegX, Option.map_eq_some_iff] at h
  obtain ⟨r, hr, rfl⟩ := h
  have hroot : IsRoot y r := sqrtRatio_cast (curveNum_lt y) hr
  have hlt := sqrtRatio_lt hr
  split_ifs with hnum hpar
  · exact ⟨by simp [IsRoot, hnum], fun h => absurd hnum h, fun _ => rfl⟩
  · exact ⟨hroot, fun _ => hpar, fun h => absurd h hnum⟩
  · refine ⟨hroot.neg hlt, fun _ => ?_, fun h => absurd h hnum⟩
    have hr0 : r ≠ 0 := by
      rintro rfl
      exact hnum (eq_of_cast_eq (curveNum_lt y) p_pos (by rw [← hroot]; simp))
    rw [neg_mod_two hlt hr0]
    omega

/-- A root makes a point of E (43_ge25519.md R190, R192). -/
theorem IsRoot.onCurve {y x : Nat} (h : IsRoot y x) (hx : x < p) (hy : y < p) : (Point.mk x y).onCurve = true := by
  have : Fact p.Prime := ⟨p_prime⟩
  refine Point.onCurve_iff.2 ⟨⟨hx, hy⟩, ?_⟩
  simp only [IsRoot, curveDen, curveNum, fAdd_cast, fSub_cast, fMul_cast, Nat.cast_one] at h
  simp only [Edwards.OnE, Point.coords]
  linear_combination -h

end Sys2Proof.Machine

/-! # The group commands

Each group command but GE.PACK makes one write of a P register, GE.UNPACKNEG together with its flag; GE.PACK stores 32 bytes
(43_ge25519.md R193 to R200). Every point written is on E (R192), which is one lemma per command that writes one. -/

namespace Sys2Proof.Machine

variable {s t u : State} {q r : Point}

/-! ## The table -/

/-- The base point, as a point of E. -/
def CurvePoint.base : CurvePoint := ⟨Point.base, Point.base_onCurve⟩

theorem chooseT_of_nonneg (pos : Nat) {g : Int} (hg : 0 ≤ g) :
    chooseT pos g = Point.smul (g.natAbs * 8 ^ pos) Point.base := if_pos hg

theorem chooseT_of_neg (pos : Nat) {g : Int} (hg : g < 0) :
    chooseT pos g = (Point.smul (g.natAbs * 8 ^ pos) Point.base).neg := if_neg (not_le.2 hg)

/-- `choose_t(pos, g)` is `g 8^pos B` (43_ge25519.md R197). -/
theorem chooseT_eq (pos : Nat) (g : Int) : chooseT pos g = CurvePoint.base.multiple (g * 8 ^ pos) := by
  have hentry : Point.smul (g.natAbs * 8 ^ pos) Point.base = CurvePoint.base.multiple (|g| * 8 ^ pos) := by
    rw [Int.abs_eq_natAbs]
    exact_mod_cast CurvePoint.base.smul_eq (g.natAbs * 8 ^ pos)
  rcases le_or_gt 0 g with hg | hg
  · rw [chooseT_of_nonneg pos hg, hentry, abs_of_nonneg hg]
  · rw [chooseT_of_neg pos hg, hentry, abs_of_neg hg, ← CurvePoint.multiple_neg, neg_mul, neg_neg]

/-- Adding the entries of digits position by position gives the multiple by their base-8 sum (43_ge25519.md R199). -/
theorem foldl_chooseT (g : Nat → Int) (n : Nat) :
    (List.range n).foldl (fun q i => q.add (chooseT i (g i))) Point.neutral =
      CurvePoint.base.multiple (∑ i ∈ Finset.range n, g i * 8 ^ i) := by
  induction n with
  | zero => exact CurvePoint.base.multiple_zero.symm
  | succ n ih =>
    rw [List.range_succ, List.foldl_append, ih, Finset.sum_range_succ, CurvePoint.multiple_add, ← chooseT_eq]
    rfl

/-! ## The commands when their checks pass -/

section
variable {d a b c : PReg}

/-- A command that writes canonical coordinates into `P[d]` has the result that statements ask of it. -/
theorem pointWrite_result {i : Instr} (h : exec i s = .next (s.writeP d q).complete) (hq : q.canonical) :
    ∃ t, exec i s = .next t ∧ Completes { p := [d] } s t ∧ t.P[d] = ⟨true, q⟩ :=
  ⟨_, h, (Effect.point d hq).completes, file_set_self s.P d _⟩

/-- A command that writes a flag and a point, or the invalid register, likewise (43_ge25519.md R193). -/
theorem unpackedWrite_result {i : Instr} {x : XReg} {y : Nat} {root : Option Nat}
    (h : exec i s = .next (s.writeUnpacked d x y root).complete) (hy : y < p) (hroot : ∀ v, root = some v → v < p) :
    ∃ t, exec i s = .next t ∧ Completes { x := [x], p := [d] } s t ∧ t.X[x] = boolWord root.isSome ∧
      (root = none → t.P[d] = Slot.invalid Point.zero) ∧ ∀ v, root = some v → t.P[d] = ⟨true, ⟨v, y⟩⟩ := by
  refine ⟨_, h, (Effect.unpacked d x hy hroot).completes, file_set_self s.X x _, ?_, ?_⟩
  · rintro rfl
    exact file_set_self s.P d _
  · rintro v rfl
    exact file_set_self s.P d _

/-- 43_ge25519.md R193. -/
theorem exec_geUnpackneg {x y : XReg} {v : Nat} (h : s.inRange (s.xVal x) 32 = true)
    (hv : leVal (s.DMEM.readBytes (s.xVal x) 32) = v) :
    exec (.geUnpackneg d x y) s =
      .next (s.writeUnpacked d y (fDecode v) (recoverNegX (fDecode v) (v / 2 ^ 255))).complete :=
  finish_of_ok (by rw [State.needBytes_legal h, ← hv]; rfl)

/-- 43_ge25519.md R194. -/
theorem exec_gePack {x : XReg} (ha : s.P[a].valid = true) (h : s.inRange (s.xVal x) 32 = true) :
    exec (.gePack x a) s = .next (s.writeMem (s.xVal x) (leBytes 32 s.P[a].value.packed)).complete :=
  finish_of_ok (by rw [State.needP_valid ha, State.needDest_legal h]; rfl)

/-- 43_ge25519.md R195. -/
theorem exec_geAdd (ha : s.P[a].valid = true) (hb : s.P[b].valid = true) :
    exec (.geAdd d a b) s = .next (s.writeP d (s.P[a].value.add s.P[b].value)).complete :=
  finish_of_ok (by rw [State.needP_valid ha, State.needP_valid hb]; rfl)

/-- 43_ge25519.md R196. -/
theorem exec_geDbl (ha : s.P[a].valid = true) :
    exec (.geDbl d a) s = .next (s.writeP d (s.P[a].value.add s.P[a].value)).complete :=
  finish_of_ok (by rw [State.needP_valid ha]; rfl)

/-- 43_ge25519.md R198. -/
theorem exec_geMadd {x y : XReg} {g : Int} (ha : s.P[a].valid = true) (hx : s.xVal x ≤ 84)
    (hy : s.inRange (s.xVal y) 1 = true) (hg : g = signed8 (s.DMEM.read (s.xVal y))) (hlo : -4 ≤ g) (hhi : g ≤ 4) :
    exec (.geMadd d a x y) s = .next (s.writeP d (s.P[a].value.add (chooseT (s.xVal x) g))).complete :=
  finish_of_ok (by
    rw [State.needP_valid ha, decide_eq_true hx, State.needRange_legal hy]
    simp [← hg, hlo, hhi])

/-- 43_ge25519.md R199. -/
theorem exec_geSmulbase {e : SReg} (he : s.S[e].valid = true) :
    exec (.geSmulbase d e) s = .next (s.writeP d (Point.smul s.S[e].value Point.base)).complete :=
  finish_of_ok (by rw [State.needS_valid he]; rfl)

/-- 43_ge25519.md R200. -/
theorem exec_geDsmul {e f : SReg} (ha : s.P[a].valid = true) (he : s.S[e].valid = true) (hc : s.P[c].valid = true)
    (hf : s.S[f].valid = true) :
    exec (.geDsmul d a e c f) s =
      .next (s.writeP d ((Point.smul s.S[e].value s.P[a].value).add (Point.smul s.S[f].value s.P[c].value))).complete :=
  finish_of_ok (by rw [State.needP_valid ha, State.needS_valid he, State.needP_valid hc, State.needS_valid hf]; rfl)

end

/-! ## The values -/

theorem canonical_of_valid {r : Slot Point} (h : r.canonicalPoint = true) (hv : r.valid = true) : r.value.canonical := by
  simpa [Slot.canonicalPoint, hv, Point.canonical] using h

/-- y leaves bit 255 free for the parity of x (43_ge25519.md R194). -/
theorem Point.packed_lt (h : q.canonical) : q.packed < 256 ^ 32 := by
  have hy : q.y < 2 ^ 255 := h.2.trans p_lt
  rw [Point.packed]
  omega

/-- 43_ge25519.md R191, with `u^(-1) = u^(p-2)`. -/
theorem Point.add_x (q r : Point) :
    ((q.add r).x : ZMod p) = (q.x * r.y + r.x * q.y) * (1 + (edwardsD : ZMod p) * q.x * r.x * q.y * r.y) ^ (p - 2) := by
  simp only [Point.add, fMul_cast, fAdd_cast, fInv, powMod_cast, Point.lawK_cast, Nat.cast_one]

/-- 43_ge25519.md R191, with `u^(-1) = u^(p-2)`. -/
theorem Point.add_y (q r : Point) :
    ((q.add r).y : ZMod p) = (q.y * r.y + q.x * r.x) * (1 - (edwardsD : ZMod p) * q.x * r.x * q.y * r.y) ^ (p - 2) := by
  simp only [Point.add, fMul_cast, fAdd_cast, fSub_cast, fInv, powMod_cast, Point.lawK_cast, Nat.cast_one]

/-! ## Points stay on the curve -/

theorem holdsPoint_valid (h : q.onCurve = true) : (⟨true, q⟩ : Slot Point).holdsPoint = true := h

theorem holdsPoint_invalid : (Slot.invalid Point.zero).holdsPoint = true := rfl

theorem chooseT_onCurve (pos : Nat) (g : Int) : (chooseT pos g).onCurve = true :=
  chooseT_eq pos g ▸ CurvePoint.base.multiple_onCurve _

theorem recoverNegX_onCurve {y par x : Nat} (hy : y < p) (h : recoverNegX y par = some x) :
    (Point.mk x y).onCurve = true :=
  (recoverNegX_spec h).1.onCurve (recoverNegX_lt h) hy

namespace State.PointsOnCurve

/-- Where the P registers are the same, so is the property. -/
theorem of_P_eq (h : s.PointsOnCurve) (hP : t.P = s.P) : t.PointsOnCurve := fun i => by
  rw [hP]
  exact h i

/-- Where every P register is cleared. -/
theorem of_P_cleared (hP : t.P = Vector.replicate 16 (Slot.invalid Point.zero)) : t.PointsOnCurve := fun i => by
  rw [hP, file_replicate]
  exact holdsPoint_invalid

theorem needP (h : s.PointsOnCurve) {a : PReg} (hq : s.needP a = .ok q) : q.onCurve = true := by
  obtain ⟨hv, rfl⟩ := State.needP_ok.1 hq
  have ha := h a
  rwa [Slot.holdsPoint, hv] at ha

theorem writeP (h : s.PointsOnCurve) (d : PReg) (hq : q.onCurve = true) : (s.writeP d q).PointsOnCurve :=
  file_set_forall h d (holdsPoint_valid hq)

theorem writeUnpacked (h : s.PointsOnCurve) (d : PReg) (b : XReg) {y : Nat} {root : Option Nat}
    (hroot : ∀ x, root = some x → (Point.mk x y).onCurve = true) : (s.writeUnpacked d b y root).PointsOnCurve := by
  cases root with
  | none => exact file_set_forall h d holdsPoint_invalid
  | some x => exact file_set_forall h d (holdsPoint_valid (hroot x rfl))

/-- However the command ends. -/
theorem finish {r : Except Cause State} (h : s.PointsOnCurve) (hn : s.finish r = .next t)
    (hr : Ensures State.PointsOnCurve r) : t.PointsOnCurve := by
  rcases State.finish_next.1 hn with ⟨u, hu, rfl⟩ | ⟨c, -, rfl⟩
  · exact (hr u hu).of_P_eq rfl
  · exact h.of_P_eq rfl

/-- A command that may touch no P register. -/
theorem of_frame (h : s.PointsOnCurve) {i : Instr} (hn : Machine.exec i s = .next t) (hi : i ≠ .wipe)
    (hp : (s.touched i).p = []) : t.PointsOnCurve := fun j => by
  rw [(exec_frame hi hn).pregs j (by simp [hp])]
  exact h j

/-- Every command (43_ge25519.md R192). -/
theorem exec (h : s.PointsOnCurve) {i : Instr} (hn : Machine.exec i s = .next t) : t.PointsOnCurve := by
  cases i with
  | wipe =>
    cases (exec_wipe s).symm.trans hn
    exact of_P_cleared rfl
  | geUnpackneg d a b =>
    exact h.finish hn (ensures_bind fun bs _ => ensures_pure (h.writeUnpacked d b fun _ =>
      recoverNegX_onCurve (fDecode_lt (leVal bs))))
  | geAdd d a b =>
    exact h.finish hn (ensures_bind fun _ hq => ensures_bind fun _ hr =>
      ensures_pure (h.writeP d (Point.add_onCurve (h.needP hq) (h.needP hr))))
  | geDbl d a =>
    exact h.finish hn (ensures_bind fun _ hq =>
      ensures_pure (h.writeP d (Point.add_onCurve (h.needP hq) (h.needP hq))))
  | geMadd d a b c =>
    exact h.finish hn (ensures_bind fun _ hq => ensures_bind fun _ _ => ensures_bind fun _ _ => ensures_bind fun _ _ =>
      ensures_pure (h.writeP d (Point.add_onCurve (h.needP hq) (chooseT_onCurve _ _))))
  | geSmulbase d a =>
    exact h.finish hn (ensures_bind fun k _ => ensures_pure (h.writeP d (Point.smul_onCurve Point.base_onCurve k)))
  | geDsmul d a b c e =>
    exact h.finish hn (ensures_bind fun _ hq => ensures_bind fun k _ => ensures_bind fun _ hr => ensures_bind fun l _ =>
      ensures_pure (h.writeP d (Point.add_onCurve (Point.smul_onCurve (h.needP hq) k)
        (Point.smul_onCurve (h.needP hr) l))))
  | _ => exact h.of_frame hn nofun rfl

theorem runCurrent (h : s.PointsOnCurve) (hn : Machine.runCurrent s = .next t) : t.PointsOnCurve := by
  cases hdec : decode s.CUR with
  | ok i => exact h.exec (runCurrent_ok hdec ▸ hn)
  | error e =>
    rw [runCurrent_error hdec] at hn
    cases hn
    exact h.of_P_eq rfl

end State.PointsOnCurve

theorem writeCmd_P (s : State) (v : Word) : (s.writeCmd v).P = s.P := by
  unfold State.writeCmd
  split
  · rfl
  · rfl

/-- No host access reaches a P register (10_state.md R46). -/
theorem perform_P (s : State) (a : Access) : (s.perform a).P = s.P := by
  cases a with
  | read width offset =>
    cases hr : s.hostRead width offset with
    | some v => rw [perform_read hr]
    | none => rw [perform_read_error hr]
  | write width offset v =>
    cases hw : s.hostWrite width offset v with
    | none => rw [perform_write_error hw]
    | some t =>
      rw [perform_write hw]
      rcases hostWrite_cases hw with hreg | ⟨a, -, rfl⟩
      · rcases writeReg_cases hreg with rfl | rfl | rfl | rfl | ⟨i, rfl⟩
        case inr.inr.inr.inl => exact writeCmd_P s v
        all_goals rfl
      · rfl

/-! ## The obligations -/

/-- Settles O18: by the cases of a step. -/
theorem stepKeepsPointsOnCurve : Obligations.StepKeepsPointsOnCurve := by
  intro s t h hs
  rcases step_next hs with ⟨later, -, rfl⟩ | ⟨-, -, rfl⟩ | ⟨-, a, later, -, rfl⟩ | ⟨-, a, later, -, -, rfl⟩ |
    ⟨-, hr | hr⟩
  · exact .of_P_cleared rfl
  · exact h
  · exact h.of_P_eq (perform_P _ a)
  · exact h.of_P_eq (perform_P _ a)
  · exact h.runCurrent hr
  · exact State.PointsOnCurve.runCurrent (s := s.countDraw) h hr

/-- Settles O41: a root is recovered if and only if there is one. -/
theorem unpackNegatedPoint : Obligations.UnpackNegatedPoint := by
  intro s d a b y num den par hrange hpar hy hnum hden
  generalize hv : leVal (s.DMEM.readBytes (s.xVal a) 32) = v at hpar hy
  obtain ⟨t, ht, hcomp, hX, hnone, hsome⟩ := unpackedWrite_result (d := d) (x := b)
    (exec_geUnpackneg (State.inRange_iff.2 (.inr hrange)) hv) (fDecode_lt _) fun _ => recoverNegX_lt
  rw [← hpar, show fDecode v = y from hy.symm] at hX hnone hsome
  rw [hnum, hden, ← curveNum_eq, ← curveDen_eq]
  refine ⟨fun hno => ?invalid, fun ⟨x₀, _, hx₀⟩ => ?point⟩
  case invalid =>
    have hroot : recoverNegX y par = none := Option.eq_none_iff_forall_ne_some.2 fun x hx =>
      hno ⟨x, recoverNegX_lt hx, isRoot_iff.1 (recoverNegX_spec hx).1⟩
    exact ⟨t, ht, hcomp, by rw [hX, hroot]; rfl, hnone hroot⟩
  case point =>
    obtain ⟨x, hroot⟩ := (isRoot_iff.2 hx₀).recoverNegX par
    obtain ⟨hx, hparity, hzero⟩ := recoverNegX_spec hroot
    exact ⟨t, x, ht, hcomp, by rw [hX, hroot]; rfl, hsome x hroot, recoverNegX_lt hroot, isRoot_iff.1 hx, hparity, hzero⟩

/-- Settles O46: the loop adds up the multiples of B by the digits, whose base-8 sum is the scalar. -/
theorem fixedBaseLoop : Obligations.FixedBaseLoop := by
  intro s d a hinv ha
  have hv : s.S[a].value < ell := lt_of_below (hinv.scalars a) ha
  obtain ⟨t, ht, -, hP⟩ := pointWrite_result (exec_geSmulbase (d := d) ha) (Point.smul_canonical _ _)
  refine ⟨t, ht, hP.trans ?_⟩
  rw [show (⟨0, 1⟩ : Point) = Point.neutral from rfl, foldl_chooseT, window3_sum hv, ← CurvePoint.smul_eq]
  rfl

/-- Settles O42: the coordinates of a valid register are canonical, so the packed number fits in 32 bytes. -/
theorem packPoint : Obligations.PackPoint := by
  intro s d a hinv ha hrange
  have hq : s.inRange (s.xVal d) 32 = true := State.inRange_iff.2 (.inr hrange)
  exact ⟨_, exec_gePack ha hq, (Effect.mem hq (leBytes_length 32 _)).completes,
    leVal_readBytes_writeBytes s.DMEM _ (Point.packed_lt (canonical_of_valid (hinv.points a) ha))⟩

/-- Settles O43: the model's sum, read in `ZMod p`; doubling is adding a register to itself. -/
theorem pointAddition : Obligations.PointAddition := by
  intro s d a b x1 y1 x2 y2 ha hb
  have hva : s.P[a].valid = true := by rw [ha]
  have hvb : s.P[b].valid = true := by rw [hb]
  obtain ⟨t, ht, hcomp, hP⟩ := pointWrite_result (exec_geAdd (d := d) hva hvb) (Point.add_canonical _ _)
  obtain ⟨u, hu, hcompu, -⟩ := pointWrite_result (exec_geDbl (d := d) hva) (Point.add_canonical _ _)
  rw [ha, hb] at hP
  exact ⟨t, _, _, ht, hcomp, hP, fMul_lt _ _, fMul_lt _ _, Point.add_x ⟨x1, y1⟩ ⟨x2, y2⟩,
    Point.add_y ⟨x1, y1⟩ ⟨x2, y2⟩, u, hu, hcompu, (exec_geAdd hva hva).trans ((exec_geDbl hva).symm.trans hu)⟩

/-- Settles O44: by the two branches of `choose_t`. -/
theorem mixedAddition : Obligations.MixedAddition := by
  intro s d a b c g ha hb hc hg hlo hhi
  have hq : s.inRange (s.xVal c) 1 = true := State.inRange_iff.2 (.inr hc)
  obtain ⟨t, ht, hcomp, hP⟩ := pointWrite_result (exec_geMadd (d := d) ha hb hq hg hlo hhi) (Point.add_canonical _ _)
  refine ⟨t, ht, hcomp, fun hnonneg => ?_, fun hneg => ?_⟩
  · rw [hP, chooseT_of_nonneg _ hnonneg]
    rfl
  · rw [hP, chooseT_of_neg _ hneg]
    rfl

/-- Settles O45: each command makes one write, of multiples and their sum. -/
theorem scalarMultiples : Obligations.ScalarMultiples := by
  intro s d a c b e hb
  exact ⟨pointWrite_result (exec_geSmulbase hb) (Point.smul_canonical _ _),
    fun ha hc he => pointWrite_result (exec_geDsmul ha hb hc he) (Point.add_canonical _ _)⟩

end Sys2Proof.Machine

/-! # The Montgomery ladder over a ring

The doubling and the differential addition of 44_curve25519.md R223, as functions of projective coordinates `(x, z)`. A point of
small order has few multiples; a table of their coordinates that is closed under the two formulas says all that the ladder can
reach from it. -/

namespace Sys2Proof.Machine.Montgomery

variable {K : Type} [CommRing K] {u : K} {n : Nat} {R : ZMod n → K × K}

/-! ## The two formulas -/

/-- The doubling of 44_curve25519.md R223. -/
def double (P : K × K) : K × K :=
  ((P.1 + P.2) ^ 2 * (P.1 - P.2) ^ 2,
    ((P.1 + P.2) ^ 2 - (P.1 - P.2) ^ 2) * ((P.1 + P.2) ^ 2 + 121665 * ((P.1 + P.2) ^ 2 - (P.1 - P.2) ^ 2)))

/-- The sum of two points whose difference has the u-coordinate `u` (44_curve25519.md R223). -/
def diffAdd (u : K) (P Q : K × K) : K × K :=
  (((Q.1 - Q.2) * (P.1 + P.2) + (Q.1 + Q.2) * (P.1 - P.2)) ^ 2,
    u * ((Q.1 - Q.2) * (P.1 + P.2) - (Q.1 + Q.2) * (P.1 - P.2)) ^ 2)

theorem double_smul (c : K) (P : K × K) : double (c • P) = c ^ 4 • double P := by
  ext <;> simp only [double, Prod.smul_fst, Prod.smul_snd, smul_eq_mul] <;> ring

theorem diffAdd_smul (u c d : K) (P Q : K × K) : diffAdd u (c • P) (d • Q) = (c * d) ^ 2 • diffAdd u P Q := by
  ext <;> simp only [diffAdd, Prod.smul_fst, Prod.smul_snd, smul_eq_mul] <;> ring

theorem diffAdd_comm (u : K) (P Q : K × K) : diffAdd u P Q = diffAdd u Q P := by
  ext <;> simp only [diffAdd] <;> ring

/-- Doubling does not tell `(x, z)` from `(z, x)`, which differ by the point of order 2. -/
theorem double_swap (P : K × K) : double P.swap = double P := by
  ext <;> simp only [double, Prod.fst_swap, Prod.snd_swap] <;> ring

/-! ## Tables of multiples -/

/-- `R m` are coordinates of the `m`-th multiple of a point of an order dividing `n` with the u-coordinate `u`: the formulas
lead from multiples to multiples. What they give are coordinates of the multiple up to a factor, which may be 0. -/
structure MultiplesTable (u : K) (R : ZMod n → K × K) : Prop where
  zero : R 0 = (1, 0)
  one : R 1 = (u, 1)
  neg : ∀ m, R (-m) = R m
  double : ∀ m, double (R m) ∈ K ∙ R (2 * m)
  diffAdd : ∀ m, diffAdd u (R m) (R (m + 1)) ∈ K ∙ R (2 * m + 1)

theorem MultiplesTable.double_mem (h : MultiplesTable u R) {m : ZMod n} {P : K × K} (hP : P ∈ K ∙ R m) :
    Montgomery.double P ∈ K ∙ R (2 * m) := by
  obtain ⟨c, rfl⟩ := Submodule.mem_span_singleton.1 hP
  rw [double_smul]
  exact Submodule.smul_mem _ _ (h.double m)

theorem MultiplesTable.diffAdd_mem (h : MultiplesTable u R) {m : ZMod n} {P Q : K × K} (hP : P ∈ K ∙ R m)
    (hQ : Q ∈ K ∙ R (m + 1)) : Montgomery.diffAdd u P Q ∈ K ∙ R (2 * m + 1) := by
  obtain ⟨c, rfl⟩ := Submodule.mem_span_singleton.1 hP
  obtain ⟨d, rfl⟩ := Submodule.mem_span_singleton.1 hQ
  rw [diffAdd_smul]
  exact Submodule.smul_mem _ _ (h.diffAdd m)

/-! ## The points of small order -/

/-- The multiples of the point of order 2 with `u = 0`. -/
def orderTwoTable : ZMod 2 → K × K := ![(1, 0), (0, 1)]

/-- The multiples of a point of order 4, with `u = 1` or `u = -1`. -/
def orderFourTable (u : K) : ZMod 4 → K × K := ![(1, 0), (u, 1), (0, 1), (u, 1)]

/-- The multiples of a point of order 8: the double has `u = 1`, and adding the point of order 2 inverts u-coordinates. -/
def orderEightTable (u : K) : ZMod 8 → K × K := ![(1, 0), (u, 1), (1, 1), (1, u), (0, 1), (1, u), (1, 1), (u, 1)]

theorem mem_span_of_eq_smul (c : K) {P S : K × K} (h : P = c • S) : P ∈ K ∙ S :=
  Submodule.mem_span_singleton.2 ⟨c, h.symm⟩

theorem diffAdd_mem_comm {P Q S : K × K} (h : diffAdd u P Q ∈ K ∙ S) : diffAdd u Q P ∈ K ∙ S := by rwa [diffAdd_comm]

/-- The point at infinity doubled. -/
theorem double_infinity : double (1, 0) ∈ K ∙ ((1, 0) : K × K) :=
  mem_span_of_eq_smul 1 (by simp [double])

/-- The point of order 2 doubled. -/
theorem double_orderTwo : double (0, 1) ∈ K ∙ ((1, 0) : K × K) := by
  rw [← double_swap]
  exact double_infinity

/-- A point of order 4 doubled. -/
theorem double_orderFour (hu : u ^ 2 = 1) : double (u, 1) ∈ K ∙ ((0, 1) : K × K) := by
  refine mem_span_of_eq_smul (4 * u * (u ^ 2 + 486662 * u + 1)) ?_
  ext <;> simp only [double, Prod.smul_mk, smul_eq_mul]
  · linear_combination (u ^ 2 - 1) * hu
  · ring

/-- A point of order 8 doubled, one whose double has `u = 1`. -/
theorem double_orderEight (hu : (u ^ 2 - 1) ^ 2 = 4 * u * (u ^ 2 + 486662 * u + 1)) :
    double (u, 1) ∈ K ∙ ((1, 1) : K × K) := by
  refine mem_span_of_eq_smul ((u ^ 2 - 1) ^ 2) ?_
  ext <;> simp only [double, Prod.smul_mk, smul_eq_mul]
  · ring
  · linear_combination -hu

/-- The point at infinity and a point. -/
theorem diffAdd_infinity (u : K) : diffAdd u (1, 0) (u, 1) ∈ K ∙ ((u, 1) : K × K) :=
  mem_span_of_eq_smul (4 * u) (by ext <;> simp only [diffAdd, Prod.smul_mk, smul_eq_mul] <;> ring)

/-- A point of order 4 and its double. -/
theorem diffAdd_orderFour (hu : u ^ 2 = 1) : diffAdd u (u, 1) (0, 1) ∈ K ∙ ((u, 1) : K × K) := by
  refine mem_span_of_eq_smul (4 * u) ?_
  ext <;> simp only [diffAdd, Prod.smul_mk, smul_eq_mul]
  · linear_combination -4 * hu
  · linear_combination 4 * u * hu

/-- A point of order 8 and its double. -/
theorem diffAdd_one_two (u : K) : diffAdd u (u, 1) (1, 1) ∈ K ∙ ((1, u) : K × K) :=
  mem_span_of_eq_smul (4 * (u - 1) ^ 2) (by ext <;> simp only [diffAdd, Prod.smul_mk, smul_eq_mul] <;> ring)

/-- The double and the triple of a point of order 8. -/
theorem diffAdd_two_three (u : K) : diffAdd u (1, 1) (1, u) ∈ K ∙ ((1, u) : K × K) :=
  mem_span_of_eq_smul (4 * (u - 1) ^ 2) (by ext <;> simp only [diffAdd, Prod.smul_mk, smul_eq_mul] <;> ring)

/-- The triple and the quadruple of a point of order 8. -/
theorem diffAdd_three_four (u : K) : diffAdd u (1, u) (0, 1) ∈ K ∙ ((u, 1) : K × K) :=
  mem_span_of_eq_smul (4 * u) (by ext <;> simp only [diffAdd, Prod.smul_mk, smul_eq_mul] <;> ring)

theorem orderTwoTable_multiples : MultiplesTable (0 : K) orderTwoTable where
  zero := rfl
  one := rfl
  neg m := by fin_cases m <;> rfl
  double m := by
    fin_cases m
    exacts [double_infinity, double_orderTwo]
  diffAdd m := by
    have h01 := diffAdd_infinity (0 : K)
    fin_cases m
    exacts [h01, diffAdd_mem_comm h01]

theorem orderFourTable_multiples (hu : u ^ 2 = 1) : MultiplesTable u (orderFourTable u) where
  zero := rfl
  one := rfl
  neg m := by fin_cases m <;> rfl
  double m := by
    have h1 := double_orderFour hu
    fin_cases m
    exacts [double_infinity, h1, double_orderTwo, h1]
  diffAdd m := by
    have h01 := diffAdd_infinity u
    have h12 := diffAdd_orderFour hu
    fin_cases m
    exacts [h01, h12, diffAdd_mem_comm h12, diffAdd_mem_comm h01]

theorem orderEightTable_multiples (hu : (u ^ 2 - 1) ^ 2 = 4 * u * (u ^ 2 + 486662 * u + 1)) :
    MultiplesTable u (orderEightTable u) where
  zero := rfl
  one := rfl
  neg m := by fin_cases m <;> rfl
  double m := by
    have h1 := double_orderEight hu
    have h2 := double_orderFour (one_pow 2 : (1 : K) ^ 2 = 1)
    have h3 : double (1, u) ∈ K ∙ (1, 1) := by rwa [← double_swap]
    fin_cases m
    exacts [double_infinity, h1, h2, h3, double_orderTwo, h3, h2, h1]
  diffAdd m := by
    have h01 := diffAdd_infinity u
    have h12 := diffAdd_one_two u
    have h23 := diffAdd_two_three u
    have h34 := diffAdd_three_four u
    fin_cases m
    exacts [h01, h12, h23, h34, diffAdd_mem_comm h34, diffAdd_mem_comm h23, diffAdd_mem_comm h12, diffAdd_mem_comm h01]

end Sys2Proof.Machine.Montgomery

/-! # The ladder commands

X.LADDER and X.BASE store 32 bytes (44_curve25519.md R224, R225). The four coordinates are two pairs in GF(p), and a pass of the
loop is the two formulas of the section above between two selects. Where the multiples of the point stand in a table, the pairs
after the pass for bit `pos` stand for the multiples by `k / 2^pos` and `k / 2^pos + 1`. -/

namespace Sys2Proof.Machine

variable {s : State} {l : LadderState} {k u x1 n : Nat} {R : ZMod n → ZMod p × ZMod p}

/-! ## The loop -/

namespace LadderState

/-- The first pair, in GF(p). -/
def first (l : LadderState) : ZMod p × ZMod p := (l.x2, l.z2)

/-- The second pair, in GF(p). -/
def second (l : LadderState) : ZMod p × ZMod p := (l.x3, l.z3)

/-- The four coordinates, in GF(p). -/
def coords (l : LadderState) : ZMod p × ZMod p × ZMod p × ZMod p := (l.x2, l.z2, l.x3, l.z3)

theorem coords_eq (l : LadderState) : l.coords = (l.first.1, l.first.2, l.second) := rfl

theorem first_step (x1 : Nat) (l : LadderState) : (l.step x1).first = Montgomery.double l.first := by
  simp [first, step, Montgomery.double, a24, sq]

theorem second_step (x1 : Nat) (l : LadderState) :
    (l.step x1).second = Montgomery.diffAdd (x1 : ZMod p) l.first l.second := by
  simp [first, second, step, Montgomery.diffAdd, sq]

theorem select_zero (l : LadderState) : l.select 0 = l := rfl

theorem first_select_one (l : LadderState) : (l.select 1).first = l.second := rfl

theorem second_select_one (l : LadderState) : (l.select 1).second = l.first := rfl

theorem coords_select (k pos : Nat) (l : LadderState) :
    (l.select (k / 2 ^ pos % 2)).coords = swapPairs (k.testBit pos) l.coords := by
  rw [Nat.testBit_eq_decide_div_mod_eq]
  by_cases h : k / 2 ^ pos % 2 = 1 <;> simp [select, swapPairs, coords, h]

end LadderState

/-- The pass for one bit position (44_curve25519.md R223). -/
def ladderPass (k x1 pos : Nat) (l : LadderState) : LadderState :=
  ((l.select (k / 2 ^ pos % 2)).step x1).select (k / 2 ^ pos % 2)

/-- The four coordinates before the first pass (44_curve25519.md R223). -/
def ladderStart (u : Nat) : LadderState := { x2 := 1, z2 := 0, x3 := u, z3 := 1 }

theorem ladderLoop_succ (k x1 pos : Nat) (l : LadderState) :
    ladderLoop k x1 (pos + 1) l = ladderLoop k x1 pos (ladderPass k x1 pos l) := rfl

/-- The loop makes the passes from the highest position down. -/
theorem ladderLoop_eq_foldr (k x1 n : Nat) (l : LadderState) :
    ladderLoop k x1 n l = (List.range n).foldr (ladderPass k x1) l := by
  induction n generalizing l with
  | zero => rfl
  | succ n ih => rw [ladderLoop_succ, ih, List.range_succ, List.foldr_append, List.foldr_cons, List.foldr_nil]

theorem ladder_eq (k u : Nat) :
    ladder k u = fMul (ladderLoop k u 255 (ladderStart u)).x2 (fInv (ladderLoop k u 255 (ladderStart u)).z2) := rfl

theorem ladder_lt (k u : Nat) : ladder k u < p := fMul_lt _ _

/-- Where the ladder ends at the point at infinity it gives 0 (44_curve25519.md R223). -/
theorem ladder_eq_zero (h : ((ladderLoop k u 255 (ladderStart u)).z2 : ZMod p) = 0) : ladder k u = 0 := by
  have : Fact p.Prime := ⟨p_prime⟩
  exact eq_of_cast_eq (ladder_lt k u) p_pos (by rw [ladder_eq, fMul_cast, fInv_cast, h, inv_zero, mul_zero, Nat.cast_zero])

/-! ## The coordinates after each pass -/

/-- The coordinates after the pass for bit `pos`, before the first pass where `pos` is 255 (44_curve25519.md R223). -/
def ladderCoords (k u pos : Nat) : ZMod p × ZMod p × ZMod p × ZMod p :=
  ((List.range' pos (255 - pos)).foldr (ladderPass k u) (ladderStart u)).coords

theorem ladderCoords_start (k u : Nat) : ladderCoords k u 255 = (1, 0, (u : ZMod p), 1) := by
  simp [ladderCoords, ladderStart, LadderState.coords]

theorem ladderCoords_pass {pos : Nat} (h : pos < 255) : ∃ x2 z2 x3 z3 : ZMod p,
    swapPairs (k.testBit pos) (ladderCoords k u (pos + 1)) = (x2, z2, x3, z3) ∧
      ladderCoords k u pos = swapPairs (k.testBit pos)
        ((Montgomery.double (x2, z2)).1, (Montgomery.double (x2, z2)).2,
          Montgomery.diffAdd (u : ZMod p) (x2, z2) (x3, z3)) := by
  have hpasses : 255 - pos = 255 - (pos + 1) + 1 := by omega
  rw [ladderCoords, ladderCoords, hpasses, List.range'_succ, List.foldr_cons]
  set l := (List.range' (pos + 1) (255 - (pos + 1))).foldr (ladderPass k u) (ladderStart u)
  refine ⟨_, _, _, _, (l.coords_select k pos).symm, ?_⟩
  rw [ladderPass, LadderState.coords_select, LadderState.coords_eq, LadderState.first_step, LadderState.second_step]
  rfl

theorem ladder_cast (k u : Nat) : (ladder k u : ZMod p) = (ladderCoords k u 0).1 * (ladderCoords k u 0).2.1 ^ (p - 2) := by
  rw [ladder_eq, fMul_cast, fInv, powMod_cast, ladderLoop_eq_foldr, List.range_eq_range']
  rfl

/-! ## The invariant -/

section
open Montgomery

/-- The two pairs stand for the multiples by `m` and by `m + 1`: each is a factor times the coordinates in the table. -/
def StandsFor (R : ZMod n → ZMod p × ZMod p) (m : ZMod n) (l : LadderState) : Prop :=
  l.first ∈ ZMod p ∙ R m ∧ l.second ∈ ZMod p ∙ R (m + 1)

theorem StandsFor.step (hR : MultiplesTable (x1 : ZMod p) R) {m : ZMod n} (h : StandsFor R m l) :
    StandsFor R (2 * m) (l.step x1) := by
  obtain ⟨hfirst, hsecond⟩ := h
  rw [StandsFor, l.first_step, l.second_step]
  exact ⟨hR.double_mem hfirst, hR.diffAdd_mem hfirst hsecond⟩

/-- The swapped pairs stand for negatives: by `-(m + 1)` and by `-m`. -/
theorem StandsFor.swap (hR : MultiplesTable (x1 : ZMod p) R) {m : ZMod n} (h : StandsFor R m l) :
    StandsFor R (-(m + 1)) (l.select 1) := by
  obtain ⟨hfirst, hsecond⟩ := h
  rw [StandsFor, l.first_select_one, l.second_select_one, show -(m + 1) + 1 = -m by ring, hR.neg, hR.neg]
  exact ⟨hsecond, hfirst⟩

/-- A pass doubles the multiplier and adds its bit. -/
theorem StandsFor.pass (hR : MultiplesTable (x1 : ZMod p) R) (k pos : Nat) {m : ZMod n} (h : StandsFor R m l) :
    StandsFor R (2 * m + (k / 2 ^ pos % 2 : Nat)) (ladderPass k x1 pos l) := by
  rw [ladderPass]
  rcases Nat.mod_two_eq_zero_or_one (k / 2 ^ pos) with hbit | hbit <;> rw [hbit]
  · simpa only [LadderState.select_zero, Nat.cast_zero, add_zero] using h.step hR
  · have hswapped := ((h.swap hR).step hR).swap hR
    rwa [show -(2 * -(m + 1) + 1) = 2 * m + ((1 : Nat) : ZMod n) by push_cast; ring] at hswapped

theorem StandsFor.loop (hR : MultiplesTable (x1 : ZMod p) R) (k i : Nat) (h : StandsFor R (k / 2 ^ i : Nat) l) :
    StandsFor R k (ladderLoop k x1 i l) := by
  induction i generalizing l with
  | zero =>
    rw [pow_zero, Nat.div_one] at h
    exact h
  | succ i ih =>
    have hbits : 2 * (k / 2 ^ (i + 1)) + k / 2 ^ i % 2 = k / 2 ^ i := by
      rw [pow_succ, ← Nat.div_div_eq_div_mul, Nat.div_add_mod]
    have hpass := h.pass hR k i
    rw [← Nat.cast_ofNat, ← Nat.cast_mul, ← Nat.cast_add, hbits] at hpass
    exact ih hpass

theorem StandsFor.start (hR : MultiplesTable (u : ZMod p) R) : StandsFor R 0 (ladderStart u) := by
  rw [StandsFor, zero_add, hR.zero, hR.one]
  simp [ladderStart, LadderState.first, LadderState.second, Submodule.mem_span_singleton_self]

/-- A multiple of the order leads to the point at infinity, where the ladder gives 0 (44_curve25519.md R224). -/
theorem ladder_eq_zero_of_multiplesTable (hR : MultiplesTable (u : ZMod p) R) (hk : k < 2 ^ 255) (hn : n ∣ k) :
    ladder k u = 0 := by
  have hstart : StandsFor R (k / 2 ^ 255 : Nat) (ladderStart u) := by
    rw [Nat.div_eq_of_lt hk, Nat.cast_zero]
    exact .start hR
  obtain ⟨hinfinity, -⟩ := hstart.loop hR
  rw [(ZMod.natCast_eq_zero_iff k n).2 hn, hR.zero] at hinfinity
  obtain ⟨c, hc⟩ := Submodule.mem_span_singleton.1 hinfinity
  have hz := congrArg Prod.snd hc
  rw [Prod.smul_snd, smul_zero] at hz
  exact ladder_eq_zero hz.symm

end

/-! ## Scalars -/

theorem clampScalar_lt (v : Nat) : clampScalar v < 2 ^ 255 := by
  rw [clampScalar]
  omega

theorem eight_dvd_clampScalar (v : Nat) : 8 ∣ clampScalar v := by
  rw [clampScalar]
  omega

/-- A byte of a string replaced: its digit of the value is replaced. -/
theorem leVal_set {bs : List Byte} {i : Nat} (h : i < bs.length) (b : Byte) :
    leVal (bs.set i b) + bs[i].toNat * 256 ^ i = leVal bs + b.toNat * 256 ^ i := by
  induction bs generalizing i with
  | nil => exact absurd h (Nat.not_lt_zero i)
  | cons x bs ih =>
    cases i with
    | zero =>
      simp only [List.set_cons_zero, List.getElem_cons_zero, leVal_cons]
      omega
    | succ i =>
      have htail := ih (Nat.succ_lt_succ_iff.1 h)
      simp only [List.set_cons_succ, List.getElem_cons_succ, leVal_cons, pow_succ]
      linear_combination 256 * htail

theorem toNat_and_248 : ∀ b : Byte, (b &&& 248).toNat = b.toNat / 8 * 8 := by decide +kernel

theorem toNat_and_127_or_64 : ∀ b : Byte, (b &&& 127 ||| 64).toNat = b.toNat % 64 + 64 := by decide +kernel

/-- Clamping the bytes of the scalar clamps its value (44_curve25519.md R221). -/
theorem leVal_clamped (m : Memory) (x : Nat) :
    leVal (((m.readBytes x 32).set 0 (m.read x &&& 248)).set 31 (m.read (x + 31) &&& 127 ||| 64)) =
      clampScalar (leVal (m.readBytes x 32)) := by
  have hlow := leVal_set (bs := m.readBytes x 32) (i := 0) (by simp) (m.read x &&& 248)
  have hhigh := leVal_set (bs := (m.readBytes x 32).set 0 (m.read x &&& 248)) (i := 31) (by simp)
    (m.read (x + 31) &&& 127 ||| 64)
  have hlt := leVal_lt (m.readBytes x 32)
  have hdigit0 := leVal_readBytes_digit m x 32 0
  have hdigit31 := leVal_readBytes_digit m x 32 31
  rw [Memory.readBytes_length] at hlt
  simp only [Memory.readBytes_getElem, List.getElem_set_ne, ne_eq, toNat_and_248, toNat_and_127_or_64, Nat.add_zero,
    OfNat.zero_ne_ofNat, not_false_eq_true, Nat.reduceLT, if_true] at hlow hhigh hdigit0 hdigit31
  rw [clampScalar]
  omega

/-! ## The commands when their checks pass -/

section
variable {d a b : XReg}

/-- 44_curve25519.md R224. -/
theorem exec_xLadder (ha : s.inRange (s.xVal a) 32 = true) (hb : s.inRange (s.xVal b) 32 = true)
    (hd : s.inRange (s.xVal d) 32 = true) :
    exec (.xLadder d a b) s =
      .next (s.writeMem (s.xVal d) (leBytes 32 (ladder (clampScalar (leVal (s.DMEM.readBytes (s.xVal a) 32)))
        (decodeU s.params.x25519MaskU255 (leVal (s.DMEM.readBytes (s.xVal b) 32)))))).complete :=
  finish_of_ok (by rw [State.needBytes_legal ha, State.needBytes_legal hb, State.needDest_legal hd]; rfl)

/-- 44_curve25519.md R225. -/
theorem exec_xBase (ha : s.inRange (s.xVal a) 32 = true) (hd : s.inRange (s.xVal d) 32 = true) :
    exec (.xBase d a) s =
      .next (s.writeMem (s.xVal d) (leBytes 32 (ladder (clampScalar (leVal (s.DMEM.readBytes (s.xVal a) 32)))
        baseU))).complete :=
  finish_of_ok (by rw [State.needBytes_legal ha, State.needDest_legal hd]; rfl)

/-- A command that stores 32 bytes of a field element has the result that statements ask of it. -/
theorem elementStore_result {i : Instr} {v : Nat} (hd : s.inRange (s.xVal d) 32 = true)
    (h : exec i s = .next (s.writeMem (s.xVal d) (leBytes 32 v)).complete) (hv : v < p) :
    ∃ t, exec i s = .next t ∧ Completes { base := s.xVal d, count := 32 } s t ∧
      leVal (t.DMEM.readBytes (s.xVal d) 32) = v :=
  ⟨_, h, (Effect.mem hd (leBytes_length 32 v)).completes, leVal_readBytes_writeBytes s.DMEM _ (lt_pow_of_lt_p hv)⟩

/-- Where a multiple of the order of the point is the point at infinity, X.LADDER stores zero bytes and records no fault. -/
theorem xLadder_zero (ha : s.xVal a + 32 ≤ s.params.dmemBytes) (hb : s.xVal b + 32 ≤ s.params.dmemBytes)
    (hd : s.xVal d + 32 ≤ s.params.dmemBytes)
    (hR : Montgomery.MultiplesTable
      (decodeU s.params.x25519MaskU255 (leVal (s.DMEM.readBytes (s.xVal b) 32)) : ZMod p) R) (hn : n ∣ 8) :
    ∃ t, exec (.xLadder d a b) s = .next t ∧ t.STATUS = { busy := false, done := true, err := s.STATUS.err } ∧
      ∀ i < 32, t.DMEM.read (s.xVal d + i) = 0 := by
  have hexec := exec_xLadder (State.inRange_iff.2 (.inr ha)) (State.inRange_iff.2 (.inr hb)) (State.inRange_iff.2 (.inr hd))
  rw [ladder_eq_zero_of_multiplesTable hR (clampScalar_lt _) (hn.trans (eight_dvd_clampScalar _))] at hexec
  refine ⟨_, hexec, rfl, fun i hi => ?_⟩
  have hlen : i < (leBytes 32 0).length := by rwa [leBytes_length]
  rw [State.complete_DMEM, State.writeMem_DMEM, Memory.read_writeBytes _ _ _ _ hlen, leBytes_getElem, Nat.zero_div]
  rfl

end

/-! ## The obligations -/

/-- Settles O49: the multiples of a point of order 4 or 8 stand in their tables, and the clamped scalar is a multiple of 8. -/
theorem ladderOfSmallOrderIsZero : Obligations.LadderOfSmallOrderIsZero := by
  rintro s d a b _ ha hb hd rfl hu
  rcases hu with hone | hminus | height
  case inl =>
    exact xLadder_zero ha hb hd (Montgomery.orderFourTable_multiples (by rw [decodeU, hone, Nat.cast_one, one_pow]))
      (by decide)
  case inr.inl =>
    exact xLadder_zero ha hb hd (Montgomery.orderFourTable_multiples
      (by rw [decodeU, hminus, Nat.cast_pred p_pos, ZMod.natCast_self, zero_sub, neg_one_sq])) (by decide)
  case inr.inr => exact xLadder_zero ha hb hd (Montgomery.orderEightTable_multiples height) (by decide)

/-- Settles O48: the multiples of the point of order 2 stand in their table. -/
theorem ladderOfZeroIsZero : Obligations.LadderOfZeroIsZero := by
  intro s d a b ha hb hd hu
  refine xLadder_zero ha hb hd (R := Montgomery.orderTwoTable) ?_ (by decide)
  rw [decodeU, hu, Nat.cast_zero]
  exact Montgomery.orderTwoTable_multiples

/-- Settles O47: the value stored is read back, the scalar is clamped in its bytes, and the passes are the two formulas between
two selects. -/
theorem ladderResults : Obligations.LadderResults := by
  refine ⟨fun s d a b k hk ha hd => ?_, fun k u => ⟨ladderCoords k u, ladderCoords_start k u,
    fun pos hpos => ladderCoords_pass hpos, ladder_lt k u, ladder_cast k u⟩⟩
  rw [leVal_clamped] at hk
  subst hk
  have har : s.inRange (s.xVal a) 32 = true := State.inRange_iff.2 (.inr ha)
  have hdr : s.inRange (s.xVal d) 32 = true := State.inRange_iff.2 (.inr hd)
  exact ⟨fun hb => elementStore_result hdr (exec_xLadder har (State.inRange_iff.2 (.inr hb)) hdr) (ladder_lt _ _),
    elementStore_result hdr (exec_xBase har hdr) (ladder_lt _ _)⟩

end Sys2Proof.Machine

/-! # The Salsa20 commands

A Salsa20 command makes one write: of the working words, or of a string of words (45_salsa20.md R238 to R244). `s.working m w`
names the state in which a sequence of step commands leaves `s`, so that a sequence is run by one rule per command; what a
string of words holds is a fact about `wordBytes` alone. -/

namespace Sys2Proof.Machine

variable {s : State} {w : Vector Word 16} {a b c d : XReg} {i0 i1 i2 i3 : WIdx}

/-! ## Strings of words -/

theorem Memory.readBytes_append (m : Memory) (x k n : Nat) :
    m.readBytes x (k + n) = m.readBytes x k ++ m.readBytes (x + k) n := by
  induction k generalizing x with
  | zero => rw [Nat.zero_add, Nat.add_zero, Memory.readBytes, List.nil_append]
  | succ k ih =>
    rw [Nat.succ_add, Memory.readBytes, ih, Memory.readBytes, List.cons_append, Nat.add_assoc, Nat.add_comm 1 k]

/-- A part of a string of DMEM is the string at the part's address. -/
theorem Memory.readBytes_slice (m : Memory) (x : Nat) {i k n : Nat} (h : i + k ≤ n) :
    ((m.readBytes x n).drop i).take k = m.readBytes (x + i) k := by
  obtain ⟨r, rfl⟩ := Nat.exists_eq_add_of_le h
  rw [Nat.add_assoc, Memory.readBytes_append, List.drop_left' (by simp), Memory.readBytes_append, List.take_left' (by simp)]

/-- A part of a string that was written is read at the part's address. -/
theorem Memory.readBytes_writeBytes_slice (m : Memory) (q : Nat) {bs : List Byte} {i k : Nat} (h : i + k ≤ bs.length) :
    (m.writeBytes q bs).readBytes (q + i) k = (bs.drop i).take k := by
  rw [← Memory.readBytes_slice _ q h, Memory.readBytes_writeBytes]

/-- Word `i` of a string of words. -/
theorem flatMap_wordBytes_slice (ws : List Word) {i : Nat} (h : i < ws.length) :
    ((ws.flatMap wordBytes).drop (4 * i)).take 4 = wordBytes ws[i] := by
  induction ws generalizing i with
  | nil => exact absurd h (Nat.not_lt_zero i)
  | cons v ws ih =>
    rw [List.flatMap_cons]
    cases i with
    | zero => exact List.take_left' (wordBytes_length v)
    | succ i =>
      rw [Nat.mul_succ, Nat.add_comm, ← List.drop_drop, List.drop_left' (wordBytes_length v)]
      exact ih (Nat.lt_of_succ_lt_succ h)

/-- Word `i` of a string of words that was written is read at its address (45_salsa20.md R239). -/
theorem readBytes_flatMap_wordBytes (m : Memory) (q : Nat) (ws : List Word) {i : Nat} (h : i < ws.length) :
    (m.writeBytes q (ws.flatMap wordBytes)).readBytes (q + 4 * i) 4 = wordBytes ws[i] := by
  have hlen : (ws.flatMap wordBytes).length = 4 * ws.length := flatMap_length ws _ 4 fun _ _ => wordBytes_length _
  rw [Memory.readBytes_writeBytes_slice _ _ (by omega), flatMap_wordBytes_slice _ h]

/-- Likewise for the sixteen words of a vector. -/
theorem readBytes_wordsBytes (m : Memory) (q : Nat) (w : Vector Word 16) (j : WIdx) :
    (m.writeBytes q (wordsBytes w)).readBytes (q + 4 * j.val) 4 = wordBytes w[j] :=
  readBytes_flatMap_wordBytes m q w.toList (by simp)

/-- The whole string is read back. -/
theorem readBytes_writeBytes_of_length (m : Memory) (q : Nat) {n : Nat} {bs : List Byte} (h : bs.length = n) :
    (m.writeBytes q bs).readBytes q n = bs := by
  rw [← h, Memory.readBytes_writeBytes]

/-- The little-endian word of a string of DMEM (45_salsa20.md, section 1). -/
theorem leWord_readBytes (m : Memory) (x : Nat) {n i : Nat} (h : 4 * i + 4 ≤ n) :
    (leWord (m.readBytes x n) i).toNat = leVal (m.readBytes (x + 4 * i) 4) := by
  rw [leWord, Memory.readBytes_slice m x h, BitVec.toNat_ofNat]
  exact Nat.mod_eq_of_lt (leVal_readBytes_lt m (x + 4 * i) .word)

/-! ## Vectors of words -/

theorem wordsOf_getElem (bs : List Byte) (j : WIdx) : (wordsOf bs)[j] = leWord bs j.val := by fin_cases j <;> rfl

theorem addWords_getElem (v w : Vector Word 16) (j : WIdx) : (addWords v w)[j] = v[j] + w[j] :=
  Vector.getElem_zipWith j.isLt

/-- The words of the bytes of sixteen words are those words (45_salsa20.md R239, R242). -/
theorem wordsOf_wordsBytes (w : Vector Word 16) : wordsOf (wordsBytes w) = w := by
  refine Vector.ext fun i h => ?_
  have hslice : ((wordsBytes w).drop (4 * i)).take 4 = wordBytes w[i] := flatMap_wordBytes_slice w.toList (by simpa)
  calc (wordsOf (wordsBytes w))[i] = leWord (wordsBytes w) i := wordsOf_getElem _ ⟨i, h⟩
    _ = w[i] := by rw [leWord, hslice, leVal_wordBytes, BitVec.ofNat_toNat, BitVec.setWidth_eq]

section
variable (input key con : List Byte) (j : Fin 4)

/-- The constant stands on the diagonal of the layout (45_salsa20.md R236). -/
theorem salsaLoad_constant : (salsaLoad input key con)[5 * j.val] = leWord con j.val := by fin_cases j <;> rfl

/-- The first half of the key (45_salsa20.md R236). -/
theorem salsaLoad_keyLow : (salsaLoad input key con)[1 + j.val] = leWord key j.val := by fin_cases j <;> rfl

/-- The second half of the key (45_salsa20.md R236). -/
theorem salsaLoad_keyHigh : (salsaLoad input key con)[11 + j.val]'(by omega) = leWord key (4 + j.val) := by
  fin_cases j <;> rfl

/-- The input block (45_salsa20.md R236). -/
theorem salsaLoad_input : (salsaLoad input key con)[6 + j.val] = leWord input j.val := by fin_cases j <;> rfl

end

/-- The words that SA.HCORE stores (45_salsa20.md R244). -/
def hsalsaWords (w : Vector Word 16) : List Word := [w[0], w[5], w[10], w[15], w[6], w[7], w[8], w[9]]

theorem hsalsaWords_length (w : Vector Word 16) : (hsalsaWords w).length = 8 := rfl

theorem hsalsaWords_low (w : Vector Word 16) (j : Fin 4) :
    (hsalsaWords w)[j.val]'(by rw [hsalsaWords_length]; omega) = w[5 * j.val] := by fin_cases j <;> rfl

theorem hsalsaWords_high (w : Vector Word 16) (j : Fin 4) :
    (hsalsaWords w)[4 + j.val]'(by rw [hsalsaWords_length]; omega) = w[6 + j.val] := by fin_cases j <;> rfl

/-- The words that SA.HCORE stores stand at their addresses, in two groups of four (45_salsa20.md R244). -/
theorem readBytes_hsalsaWords (m : Memory) (q : Nat) (w : Vector Word 16) (j : Fin 4) {t : Memory}
    (ht : t = m.writeBytes q ((hsalsaWords w).flatMap wordBytes)) :
    t.readBytes (q + 4 * j.val) 4 = wordBytes w[5 * j.val] ∧ t.readBytes (q + 16 + 4 * j.val) 4 = wordBytes w[6 + j.val] := by
  have hlow : j.val < (hsalsaWords w).length := by rw [hsalsaWords_length]; omega
  have hhigh : 4 + j.val < (hsalsaWords w).length := by rw [hsalsaWords_length]; omega
  rw [ht, Nat.add_assoc, ← Nat.mul_add 4 4, readBytes_flatMap_wordBytes m q _ hlow, readBytes_flatMap_wordBytes m q _ hhigh,
    hsalsaWords_low, hsalsaWords_high]
  exact ⟨rfl, rfl⟩

theorem hsalsaCore_eq (input key con : List Byte) :
    hsalsaCore input key con = (hsalsaWords (doubleRounds 10 (salsaLoad input key con))).flatMap wordBytes := rfl

/-! ## The quarter-round -/

/-- The words as a function of their index. -/
def wordsAt (w : Vector Word 16) (j : WIdx) : Word := w[j]

theorem wordsAt_set (w : Vector Word 16) (i : WIdx) (x : Word) :
    wordsAt (w.set i x) = Function.update (wordsAt w) i x := by
  funext j
  by_cases h : j = i
  · rw [h, Function.update_self]
    exact file_set_self w i x
  · rw [Function.update_of_ne h]
    exact file_set_other w x h

/-- One statement of the quarter-round: the word `i` is mixed with the sum of the words `j` and `k` (45_salsa20.md R237). -/
def mix (i j k : WIdx) (c : Nat) (v : WIdx → Word) : WIdx → Word :=
  Function.update v i (v i ^^^ (v j + v k).rotateLeft c)

theorem mix_self (i j k : WIdx) (c : Nat) (v : WIdx → Word) : mix i j k c v i = v i ^^^ (v j + v k).rotateLeft c :=
  Function.update_self ..

theorem mix_other {i x : WIdx} (h : x ≠ i) (j k : WIdx) (c : Nat) (v : WIdx → Word) : mix i j k c v x = v x :=
  Function.update_of_ne h ..

theorem wordsAt_mixed (w : Vector Word 16) (i j k : WIdx) {c : Nat} (hc : c < 32) :
    wordsAt (w.set i (w[i] ^^^ rotl (w[j] + w[k]) c)) = mix i j k c (wordsAt w) := by
  rw [wordsAt_set, rotl_eq_rotateLeft _ c hc]
  rfl

/-- The words after the four statements (45_salsa20.md R237). -/
theorem wordsAt_quarterRound (i0 i1 i2 i3 : WIdx) (w : Vector Word 16) :
    wordsAt (quarterRound i0 i1 i2 i3 w) =
      mix i0 i3 i2 18 (mix i3 i2 i1 13 (mix i2 i1 i0 9 (mix i1 i0 i3 7 (wordsAt w)))) := by
  rw [← wordsAt_mixed w i1 i0 i3 (c := 7) (by decide), ← wordsAt_mixed _ i2 i1 i0 (c := 9) (by decide),
    ← wordsAt_mixed _ i3 i2 i1 (c := 13) (by decide), ← wordsAt_mixed _ i0 i3 i2 (c := 18) (by decide)]
  rfl

section
variable {v0 v1 v2 v3 v4 : WIdx → Word}

/-- A word that no index names is as before. -/
theorem mix_untouched {x : WIdx} (h : x ∉ [i0, i1, i2, i3]) (h1 : v1 = mix i1 i0 i3 7 v0) (h2 : v2 = mix i2 i1 i0 9 v1)
    (h3 : v3 = mix i3 i2 i1 13 v2) (h4 : v4 = mix i0 i3 i2 18 v3) : v4 x = v0 x := by
  simp only [List.mem_cons, List.not_mem_nil, or_false, not_or] at h
  obtain ⟨hx0, hx1, hx2, hx3⟩ := h
  rw [h4, mix_other hx0, h3, mix_other hx3, h2, mix_other hx2, h1, mix_other hx1]

/-- On distinct indices no statement writes a word twice, so each word has its last value from its own statement on and its
first value up to there (45_salsa20.md R237). -/
theorem mix_distinct (h : [i0, i1, i2, i3].Nodup) (h1 : v1 = mix i1 i0 i3 7 v0) (h2 : v2 = mix i2 i1 i0 9 v1)
    (h3 : v3 = mix i3 i2 i1 13 v2) (h4 : v4 = mix i0 i3 i2 18 v3) :
    v4 i1 = v0 i1 ^^^ (v0 i0 + v0 i3).rotateLeft 7 ∧ v4 i2 = v0 i2 ^^^ (v4 i1 + v0 i0).rotateLeft 9 ∧
      v4 i3 = v0 i3 ^^^ (v4 i2 + v4 i1).rotateLeft 13 ∧ v4 i0 = v0 i0 ^^^ (v4 i3 + v4 i2).rotateLeft 18 := by
  simp only [List.nodup_cons, List.mem_cons, List.not_mem_nil, or_false, not_or] at h
  obtain ⟨⟨h01, h02, h03⟩, ⟨h12, h13⟩, h23, -⟩ := h
  have last3 : v4 i3 = v3 i3 := by rw [h4, mix_other (Ne.symm h03)]
  have last2 : v4 i2 = v2 i2 ∧ v3 i2 = v2 i2 := by rw [h4, mix_other (Ne.symm h02), h3, mix_other h23, and_self]
  have last1 : v4 i1 = v1 i1 ∧ v2 i1 = v1 i1 := by
    rw [h4, mix_other (Ne.symm h01), h3, mix_other h13, h2, mix_other h12, and_self]
  have first2 : v1 i2 = v0 i2 := by rw [h1, mix_other (Ne.symm h12)]
  have first3 : v2 i3 = v0 i3 := by rw [h2, mix_other (Ne.symm h23), h1, mix_other (Ne.symm h13)]
  have first0 : v3 i0 = v0 i0 ∧ v1 i0 = v0 i0 := by rw [h3, mix_other h03, h2, mix_other h02, h1, mix_other h01, and_self]
  refine ⟨?_, ?_, ?_, ?_⟩
  · rw [last1.1, h1, mix_self]
  · rw [last2.1, h2, mix_self, first2, first0.2, last1.1]
  · rw [last3, h3, mix_self, first3, last1.2, last2.1, last1.1]
  · rw [h4, mix_self, first0.1, last2.2, ← h4, last3, last2.1]

/-- On four equal indices the word is mixed with its double four times in turn (45_salsa20.md R240). -/
theorem mix_equal {i : WIdx} (h1 : v1 = mix i i i 7 v0) (h2 : v2 = mix i i i 9 v1) (h3 : v3 = mix i i i 13 v2)
    (h4 : v4 = mix i i i 18 v3) : v4 i = [7, 9, 13, 18].foldl (fun x c => x ^^^ (x + x).rotateLeft c) (v0 i) := by
  rw [h4, mix_self, h3, mix_self, h2, mix_self, h1, mix_self]
  rfl

end

/-! ## The commands when their checks pass -/

/-- 45_salsa20.md R238. -/
theorem exec_saLdw (ha : s.inRange (s.xVal a) 16 = true) (hb : s.inRange (s.xVal b) 32 = true)
    (hc : s.inRange (s.xVal c) 16 = true) :
    exec (.saLdw a b c) s =
      .next (s.writeW (salsaLoad (s.DMEM.readBytes (s.xVal a) 16) (s.DMEM.readBytes (s.xVal b) 32)
        (s.DMEM.readBytes (s.xVal c) 16))).complete :=
  finish_of_ok (by rw [State.needBytes_legal ha, State.needBytes_legal hb, State.needBytes_legal hc]; rfl)

/-- 45_salsa20.md R239. -/
theorem exec_saStw (hw : s.WV = true) (hd : s.inRange (s.xVal d) 64 = true) :
    exec (.saStw d) s = .next (s.writeMem (s.xVal d) (wordsBytes s.W)).complete :=
  finish_of_ok (by rw [State.needW_valid hw, State.needDest_legal hd]; rfl)

/-- 45_salsa20.md R240. -/
theorem exec_saQr (i0 i1 i2 i3 : WIdx) (hw : s.WV = true) :
    exec (.saQr i0 i1 i2 i3) s = .next (s.writeW (quarterRound i0 i1 i2 i3 s.W)).complete :=
  finish_of_ok (by rw [State.needW_valid hw]; rfl)

/-- 45_salsa20.md R241. -/
theorem exec_saDround (hw : s.WV = true) : exec .saDround s = .next (s.writeW (doubleRound s.W)).complete :=
  finish_of_ok (by rw [State.needW_valid hw]; rfl)

/-- 45_salsa20.md R242. -/
theorem exec_saAddw (hw : s.WV = true) (ha : s.inRange (s.xVal a) 64 = true) :
    exec (.saAddw a) s =
      .next (s.writeW (addWords s.W (wordsOf (s.DMEM.readBytes (s.xVal a) 64)))).complete :=
  finish_of_ok (by rw [State.needW_valid hw, State.needBytes_legal ha]; rfl)

/-- A command that writes the words has the result that statements ask of it. -/
theorem wordsWrite_result {i : Instr} (h : exec i s = .next (s.writeW w).complete) :
    ∃ t, exec i s = .next t ∧ Completes { w := true } s t ∧ t.WV = true ∧ t.W = w :=
  ⟨_, h, (Effect.words w).completes, rfl, rfl⟩

/-- A composite stores the output of its core function and invalidates the words (45_salsa20.md R243, R244). -/
theorem composite_result {core : List Byte → List Byte → List Byte → List Byte} {n : Nat} {i : Instr}
    (hi : exec i s = s.finish (s.salsaComposite core n d a b c)) (hn : ∀ x k y, (core x k y).length = n)
    (ha : s.xVal a + 16 ≤ s.params.dmemBytes) (hb : s.xVal b + 32 ≤ s.params.dmemBytes)
    (hc : s.xVal c + 16 ≤ s.params.dmemBytes) (hd : s.xVal d + n ≤ s.params.dmemBytes) :
    ∃ t, exec i s = .next t ∧ Completes { w := true, base := s.xVal d, count := n } s t ∧ t.WV = false ∧
      (∀ j : WIdx, t.W[j] = 0) ∧
      t.DMEM = s.DMEM.writeBytes (s.xVal d) (core (s.DMEM.readBytes (s.xVal a) 16) (s.DMEM.readBytes (s.xVal b) 32)
        (s.DMEM.readBytes (s.xVal c) 16)) := by
  have hdr : s.inRange (s.xVal d) n = true := State.inRange_iff.2 (.inr hd)
  have hok := (State.salsaComposite_ok (core := core)).2
    ⟨State.inRange_iff.2 (.inr ha), State.inRange_iff.2 (.inr hb), State.inRange_iff.2 (.inr hc), hdr, rfl⟩
  exact ⟨_, hi.trans (finish_of_ok hok), (Effect.memWords hdr (hn _ _ _)).completes, rfl, file_replicate 0, rfl⟩

/-! ## Sequences of step commands -/

theorem execAll_cons {i : Instr} {t : State} (h : exec i s = .next t) (is : List Instr) :
    execAll (i :: is) s = execAll is t := by rw [execAll, h]

/-- The state after a step command from `s`: memory `m`, valid words `w`, completed; the rest is that of `s`. -/
def State.working (s : State) (m : Memory) (w : Vector Word 16) : State := ((s.withMem m).writeW w).complete

@[simp] theorem State.working_DMEM (s : State) (m : Memory) (w : Vector Word 16) : (s.working m w).DMEM = m := rfl

/-- SA.LDW begins a sequence. -/
theorem execAll_saLdw (ha : s.inRange (s.xVal a) 16 = true) (hb : s.inRange (s.xVal b) 32 = true)
    (hc : s.inRange (s.xVal c) 16 = true) (is : List Instr) :
    execAll (.saLdw a b c :: is) s =
      execAll is (s.working s.DMEM (salsaLoad (s.DMEM.readBytes (s.xVal a) 16) (s.DMEM.readBytes (s.xVal b) 32)
        (s.DMEM.readBytes (s.xVal c) 16))) :=
  execAll_cons (exec_saLdw ha hb hc) is

theorem execAll_saStw (m : Memory) (w : Vector Word 16) (hd : s.inRange (s.xVal d) 64 = true) (is : List Instr) :
    execAll (.saStw d :: is) (s.working m w) = execAll is (s.working (m.writeBytes (s.xVal d) (wordsBytes w)) w) :=
  execAll_cons (exec_saStw (s := s.working m w) rfl hd) is

theorem execAll_saQr (m : Memory) (w : Vector Word 16) (i0 i1 i2 i3 : WIdx) (is : List Instr) :
    execAll (.saQr i0 i1 i2 i3 :: is) (s.working m w) = execAll is (s.working m (quarterRound i0 i1 i2 i3 w)) :=
  execAll_cons (exec_saQr i0 i1 i2 i3 rfl) is

theorem execAll_saAddw (m : Memory) (w : Vector Word 16) (ha : s.inRange (s.xVal a) 64 = true) (is : List Instr) :
    execAll (.saAddw a :: is) (s.working m w) =
      execAll is (s.working m (addWords w (wordsOf (m.readBytes (s.xVal a) 64)))) :=
  execAll_cons (exec_saAddw (s := s.working m w) rfl ha) is

theorem execAll_saDrounds (n : Nat) (m : Memory) (w : Vector Word 16) (is : List Instr) :
    execAll (List.replicate n .saDround ++ is) (s.working m w) = execAll is (s.working m (doubleRounds n w)) := by
  induction n generalizing w with
  | zero => rfl
  | succ n ih =>
    rw [List.replicate_succ, List.cons_append, execAll_cons (exec_saDround rfl)]
    exact ih (doubleRound w)

/-- The sequence of 45_salsa20.md R245 up to its last double-round: the loaded words stand at `j`, and the words are those
after ten double-rounds. -/
theorem execAll_tenRounds {j : XReg} (ha : s.inRange (s.xVal a) 16 = true) (hb : s.inRange (s.xVal b) 32 = true)
    (hc : s.inRange (s.xVal c) 16 = true) (hj : s.inRange (s.xVal j) 64 = true)
    (hw : w = salsaLoad (s.DMEM.readBytes (s.xVal a) 16) (s.DMEM.readBytes (s.xVal b) 32) (s.DMEM.readBytes (s.xVal c) 16))
    (is : List Instr) :
    execAll ([.saLdw a b c, .saStw j] ++ List.replicate 10 .saDround ++ is) s =
      execAll is (s.working (s.DMEM.writeBytes (s.xVal j) (wordsBytes w)) (doubleRounds 10 w)) := by
  rw [List.append_assoc, List.cons_append, execAll_saLdw ha hb hc, ← hw, List.cons_append, execAll_saStw _ _ hj]
  exact execAll_saDrounds 10 _ w is

/-- The words of SA.HCORE, picked out of the sixteen words stored at `q` (45_salsa20.md R245). -/
theorem hsalsaWords_of_stored (m : Memory) (q : Nat) (r : Vector Word 16) {t : Memory}
    (ht : t = m.writeBytes q (wordsBytes r)) :
    t.readBytes q 4 ++ t.readBytes (q + 20) 4 ++ t.readBytes (q + 40) 4 ++ t.readBytes (q + 60) 4 ++
      t.readBytes (q + 24) 16 = (hsalsaWords r).flatMap wordBytes := by
  have hword (j : WIdx) : t.readBytes (q + 4 * j.val) 4 = wordBytes r[j] := by rw [ht, readBytes_wordsBytes]
  have h6789 : t.readBytes (q + 24) 16 =
      t.readBytes (q + 24) 4 ++ t.readBytes (q + 28) 4 ++ t.readBytes (q + 32) 4 ++ t.readBytes (q + 36) 4 := by
    rw [← Memory.readBytes_append t (q + 24) 4 4, ← Memory.readBytes_append t (q + 24) 8 4,
      ← Memory.readBytes_append t (q + 24) 12 4]
  calc
    _ = ([0, 5, 10, 15, 6, 7, 8, 9] : List WIdx).flatMap fun j => t.readBytes (q + 4 * j.val) 4 := by
      simp [h6789, List.append_assoc]
    _ = ([0, 5, 10, 15, 6, 7, 8, 9] : List WIdx).flatMap fun j => wordBytes r[j] := by simp only [hword]

/-! ## The obligations -/

/-- Settles O50: word by word, from the layout of the vector and of the string stored. -/
theorem salsaWords : Obligations.SalsaWords := by
  intro s a b c d
  refine ⟨fun ha hb hc => ?load, fun hw ha => ?add, fun hw hd => ?store⟩
  case load =>
    obtain ⟨t, ht, hcompletes, hwv, hwords⟩ := wordsWrite_result
      (exec_saLdw (State.inRange_iff.2 (.inr ha)) (State.inRange_iff.2 (.inr hb)) (State.inRange_iff.2 (.inr hc)))
    refine ⟨t, ht, hcompletes, hwv, fun j => ?_⟩
    simp only [hwords, salsaLoad_constant, salsaLoad_keyLow, salsaLoad_keyHigh, salsaLoad_input]
    refine ⟨leWord_readBytes _ _ (by omega), leWord_readBytes _ _ (by omega), ?_, leWord_readBytes _ _ (by omega)⟩
    rw [leWord_readBytes _ _ (by omega), Nat.mul_add, Nat.add_assoc]
  case add =>
    obtain ⟨t, ht, hcompletes, hwv, hwords⟩ := wordsWrite_result (exec_saAddw hw (State.inRange_iff.2 (.inr ha)))
    refine ⟨t, ht, hcompletes, hwv, fun j => ?_⟩
    rw [hwords, addWords_getElem, wordsOf_getElem, BitVec.toNat_add, leWord_readBytes _ _ (by omega)]
  case store =>
    have hdr : s.inRange (s.xVal d) 64 = true := State.inRange_iff.2 (.inr hd)
    refine ⟨_, exec_saStw hw hdr, (Effect.mem hdr (wordsBytes_length _)).completes, fun j => ?_⟩
    exact (congrArg leVal (readBytes_wordsBytes s.DMEM _ s.W j)).trans (leVal_wordBytes _)

/-- Settles O51: the four statements in order are what the words are mixed by. -/
theorem saQr_quarterRound : Obligations.QuarterRound := by
  intro s i0 i1 i2 i3 hw
  obtain ⟨t, ht, hcompletes, hwv, hwords⟩ := wordsWrite_result (exec_saQr i0 i1 i2 i3 hw)
  have hlast (j : WIdx) := congrFun (wordsAt_quarterRound i0 i1 i2 i3 s.W) j
  rw [← hwords] at hlast
  refine ⟨t, ht, hcompletes, hwv, fun j hj => (hlast j).trans (mix_untouched hj rfl rfl rfl rfl),
    ⟨wordsAt s.W, _, _, _, _, fun _ => rfl, rfl, rfl, rfl, rfl, hlast⟩, fun hdistinct => ?distinct, ?equal⟩
  case distinct => exact mix_distinct hdistinct rfl rfl rfl (funext hlast)
  case equal =>
    rintro rfl rfl rfl
    exact mix_equal rfl rfl rfl (funext hlast)

/-- Settles O52: the rounds of the two steps are those that the eight commands run. -/
theorem doubleRoundIsEightQuarterRounds : Obligations.DoubleRoundIsEightQuarterRounds := by
  intro s hw
  refine ⟨_, exec_saDround hw, (Effect.words _).completes, rfl, ?_⟩
  have hfirst (is : List Instr) : execAll (.saQr 0 4 8 12 :: is) s =
    execAll is (s.working s.DMEM (quarterRound 0 4 8 12 s.W)) := execAll_cons (exec_saQr 0 4 8 12 hw) is
  rw [hfirst]
  simp only [execAll_saQr]
  rfl

/-- Settles O53: word by word, from the layout of the two outputs. -/
theorem salsaComposites : Obligations.SalsaComposites := by
  rintro s d a b c w r rfl rfl ha hb hc
  refine ⟨fun hd => ?core, fun hd => ?hcore⟩
  case core =>
    obtain ⟨t, ht, hcompletes, hwv, hzero, hmem⟩ :=
      composite_result (i := .saCore d a b c) rfl salsaCore_length ha hb hc hd
    refine ⟨t, ht, hcompletes, hwv, hzero, fun j => ?_⟩
    rw [hmem, salsaCore, readBytes_wordsBytes, leVal_wordBytes, addWords_getElem, BitVec.toNat_add]
  case hcore =>
    obtain ⟨t, ht, hcompletes, hwv, hzero, hmem⟩ :=
      composite_result (i := .saHcore d a b c) rfl hsalsaCore_length ha hb hc hd
    rw [hsalsaCore_eq] at hmem
    refine ⟨t, ht, hcompletes, hwv, hzero, fun j => ?_⟩
    obtain ⟨hlow, hhigh⟩ := readBytes_hsalsaWords _ _ _ j hmem
    rw [hlow, hhigh, leVal_wordBytes, leVal_wordBytes]
    exact ⟨rfl, rfl⟩

/-- Settles O54: both sequences run to the words after ten double-rounds, and what SA.STW then stores is the output of the
composite, or holds the words of it. -/
theorem salsaStepsEqualComposites : Obligations.SalsaStepsEqualComposites := by
  intro s a b c d j ha hb hc hd hj
  have hdr : s.inRange (s.xVal d) 64 = true := State.inRange_iff.2 (.inr hd)
  have hjr : s.inRange (s.xVal j) 64 = true := State.inRange_iff.2 (.inr hj)
  have hten := execAll_tenRounds (State.inRange_iff.2 (.inr ha)) (State.inRange_iff.2 (.inr hb))
    (State.inRange_iff.2 (.inr hc)) hjr rfl
  obtain ⟨u, hu, -, huv, -, humem⟩ := composite_result (i := .saCore d a b c) rfl salsaCore_length ha hb hc hd
  obtain ⟨h, hh, -, -, -, hhmem⟩ := composite_result (i := .saHcore d a b c) rfl hsalsaCore_length ha hb hc (by omega)
  refine ⟨_, u, _, h, ((hten _).trans (execAll_saAddw _ _ hjr _)).trans (execAll_saStw _ _ hdr _), hu,
    (hten _).trans (execAll_saStw _ _ hdr _), hh, rfl, huv, ?core, ?hcore⟩
  case core =>
    rw [humem, readBytes_writeBytes_of_length _ _ (salsaCore_length _ _ _),
      readBytes_writeBytes_of_length _ _ (wordsBytes_length _), wordsOf_wordsBytes]
    exact readBytes_writeBytes_of_length _ _ (wordsBytes_length _)
  case hcore =>
    rw [hhmem, readBytes_writeBytes_of_length _ _ (hsalsaCore_length _ _ _), hsalsaCore_eq, State.working_DMEM]
    exact hsalsaWords_of_stored _ _ _ rfl

end Sys2Proof.Machine

/-! # The Poly1305 commands

A Poly1305 command makes one write: of the Poly1305 state, of a tag, or of a truth value (46_poly1305.md R257 to R261).
`Absorbed` says what a run of PL.BLOCK commands leaves; the step commands absorb the chunks of the message in the order in
which the one-shot commands fold over them (R262). -/

namespace Sys2Proof.Machine

variable {s t u : State} {a b c d e : XReg}

/-! ## Parts of a string of DMEM -/

theorem Memory.readBytes_take (m : Memory) (x n k : Nat) : (m.readBytes x n).take k = m.readBytes x (min k n) :=
  List.ext_getElem (by simp) fun i _ _ => by simp

theorem Memory.readBytes_drop (m : Memory) (x n k : Nat) : (m.readBytes x n).drop k = m.readBytes (x + k) (n - k) :=
  List.ext_getElem (by simp) fun i _ _ => by simp [Nat.add_assoc]

theorem Memory.readBytes_eq_map (m : Memory) (x n : Nat) :
    m.readBytes x n = (List.range n).map fun i => m.read (x + i) :=
  List.ext_getElem (by simp) fun i _ _ => by simp

/-! ## The key -/

/-- The bytes of a conjunction. -/
theorem leBytes_and (n v w : Nat) : leBytes n (v &&& w) = List.zipWith (· &&& ·) (leBytes n v) (leBytes n w) := by
  induction n generalizing v w with
  | zero => rfl
  | succ n ih =>
    rw [leBytes, leBytes, leBytes, List.zipWith_cons_cons, BitVec.ofNat_and, ← ih]
    exact congrArg _ (congrArg _ (Nat.and_div_two_pow (n := 8)))

/-- What is kept of byte `i` of the first key half (46_poly1305.md R257). -/
def clampMask (i : Nat) : Byte :=
  if i = 3 ∨ i = 7 ∨ i = 11 ∨ i = 15 then 15 else if i = 4 ∨ i = 8 ∨ i = 12 then 252 else 255

theorem leBytes_clampMask :
    leBytes 16 (0x0ffffffc0ffffffc0ffffffc0fffffff : BitVec 128).toNat = (List.range 16).map clampMask := by
  decide +kernel

/-- Sixteen bytes fit in 128 bits. -/
theorem toNat_ofNat_leVal_readBytes (m : Memory) (x : Nat) :
    (BitVec.ofNat 128 (leVal (m.readBytes x 16))).toNat = leVal (m.readBytes x 16) := by
  have hlt := leVal_lt (m.readBytes x 16)
  rw [Memory.readBytes_length] at hlt
  rw [BitVec.toNat_ofNat]
  exact Nat.mod_eq_of_lt hlt

/-- The multiplier is the first key half, clamped byte by byte (46_poly1305.md R257). -/
theorem leBytes_keyR (m : Memory) (x : Nat) :
    leBytes 16 (keyR (m.readBytes x 32)).toNat = (List.range 16).map fun i => m.read (x + i) &&& clampMask i := by
  have hkey : leBytes 16 (leVal (m.readBytes x 16)) = m.readBytes x 16 := by
    simpa only [Memory.readBytes_length] using leBytes_leVal (m.readBytes x 16)
  rw [keyR, clampR, Memory.readBytes_take, BitVec.toNat_and, leBytes_and, leBytes_clampMask, Nat.min_eq_left (by decide),
    toNat_ofNat_leVal_readBytes, hkey, Memory.readBytes_eq_map, List.zipWith_map, List.zipWith_self]

/-- The pad is the second key half (46_poly1305.md R257). -/
theorem toNat_keyS (m : Memory) (x : Nat) : (keyS (m.readBytes x 32)).toNat = leVal (m.readBytes (x + 16) 16) := by
  rw [keyS, Memory.readBytes_slice m x (by decide), toNat_ofNat_leVal_readBytes]

/-! ## Chunks -/

theorem chunksOf_nil (n : Nat) : chunksOf n [] = [] := by cases n <;> rfl

theorem chunksOf_succ {bs : List Byte} (n : Nat) (h : bs ≠ []) :
    chunksOf (n + 1) bs = bs.take 16 :: chunksOf n (bs.drop 16) := by
  cases bs with
  | nil => exact absurd rfl h
  | cons b bs => rfl

/-- The first chunk of a string of DMEM, and the others (46_poly1305.md R256). -/
theorem chunksOf_readBytes (m : Memory) (x n : Nat) {len : Nat} (h : len ≠ 0) :
    chunksOf (n + 1) (m.readBytes x len) =
      m.readBytes x (min 16 len) :: chunksOf n (m.readBytes (x + 16) (len - 16)) := by
  rw [chunksOf_succ n (List.ne_nil_of_length_pos (by simpa using Nat.pos_of_ne_zero h)), Memory.readBytes_take,
    Memory.readBytes_drop]

/-! ## The comparison of tags -/

/-- Without an early exit, the differences leave zero exactly if there is none (46_poly1305.md R261). -/
theorem foldl_or_xor_eq_zero {v w : List Byte} (h : v.length = w.length) (acc : Byte) :
    (List.zipWith (· ^^^ ·) v w).foldl (· ||| ·) acc = 0 ↔ acc = 0 ∧ v = w := by
  induction v generalizing w acc with
  | nil =>
    obtain rfl := List.eq_nil_of_length_eq_zero h.symm
    simp
  | cons x v ih =>
    cases w with
    | nil => exact absurd h (Nat.succ_ne_zero _)
    | cons y w =>
      have hstep : acc ||| (x ^^^ y) = 0 ↔ acc = 0 ∧ x = y :=
        BitVec.or_eq_zero_iff.trans (and_congr_right' BitVec.xor_eq_zero_iff)
      rw [List.zipWith_cons_cons, List.foldl_cons, ih (Nat.succ.inj h), hstep, List.cons.injEq, and_assoc]

theorem tagDiff_eq_zero {v w : List Byte} (h : v.length = w.length) : tagDiff v w = 0 ↔ v = w := by
  rw [tagDiff, foldl_or_xor_eq_zero h, eq_self_iff_true, true_and]

/-! ## The commands when their checks pass -/

/-- The state after PL.INIT from `s` on the key string `key`. -/
def State.keyed (s : State) (key : List Byte) : State := (s.writePoly 0 (keyR key) (keyS key)).complete

/-- 46_poly1305.md R257. -/
theorem exec_plInit (ha : s.inRange (s.xVal a) 32 = true) :
    exec (.plInit a) s = .next (s.keyed (s.DMEM.readBytes (s.xVal a) 32)) :=
  finish_of_ok (by rw [State.needBytes_legal ha]; rfl)

/-- 46_poly1305.md R258. -/
theorem exec_plBlock (hv : s.PV = true) (hlow : 1 ≤ s.xVal b) (hhigh : s.xVal b ≤ 16)
    (ha : s.inRange (s.xVal a) (s.xVal b) = true) :
    exec (.plBlock a b) s =
      .next (s.writePH (absorb s.PH s.PR.toNat (s.DMEM.readBytes (s.xVal a) (s.xVal b)))).complete :=
  finish_of_ok (by
    rw [State.needPoly_valid hv, decide_eq_true hlow, decide_eq_true hhigh, State.needBytes_legal ha]; rfl)

/-- 46_poly1305.md R259. -/
theorem exec_plFinal (hv : s.PV = true) (hd : s.inRange (s.xVal d) 16 = true) :
    exec (.plFinal d) s = .next (s.writeMem (s.xVal d) (tagBytes s.PH s.PS)).complete :=
  finish_of_ok (by rw [State.needPoly_valid hv, State.needDest_legal hd]; rfl)

/-- 46_poly1305.md R260. -/
theorem exec_plAuth (ha : s.inRange (s.xVal a) (s.xVal b) = true) (hc : s.inRange (s.xVal c) 32 = true)
    (hd : s.inRange (s.xVal d) 16 = true) :
    exec (.plAuth d a b c) s =
      .next (s.writeMem (s.xVal d) (poly1305 (s.DMEM.readBytes (s.xVal a) (s.xVal b))
        (s.DMEM.readBytes (s.xVal c) 32))).invalidatePoly.complete :=
  finish_of_ok (by rw [State.needBytes_legal ha, State.needBytes_legal hc, State.needDest_legal hd]; rfl)

/-- 46_poly1305.md R261. -/
theorem exec_plVerify (ha : s.inRange (s.xVal a) 16 = true) (hb : s.inRange (s.xVal b) (s.xVal c) = true)
    (he : s.inRange (s.xVal e) 32 = true) :
    exec (.plVerify d a b c e) s =
      .next (s.writeX d (boolWord (tagDiff (s.DMEM.readBytes (s.xVal a) 16)
        (poly1305 (s.DMEM.readBytes (s.xVal b) (s.xVal c)) (s.DMEM.readBytes (s.xVal e) 32)) == 0))).invalidatePoly.complete :=
  finish_of_ok (by rw [State.needBytes_legal ha, State.needBytes_legal hb, State.needBytes_legal he]; rfl)

/-! ## Sequences of PL.BLOCK -/

/-- Every address of DMEM fits a word (00_scope.md R9). -/
theorem dmemBytes_le (h : s.params.wf = true) : s.params.dmemBytes ≤ 2 ^ 31 := by
  rw [Params.wf, Bool.and_eq_true, decide_eq_true_eq, decide_eq_true_eq] at h
  exact h.2

/-- `t` is `s` with some message absorbed into the accumulator `h`, by a host that uses `X[a]` and `X[b]`: what the commands
after it can read of the rest is as it was. -/
structure Absorbed (a b : XReg) (h : Nat) (s t : State) : Prop where
  params : t.params = s.params
  xval : ∀ j : XReg, j ≠ a → j ≠ b → t.xVal j = s.xVal j
  mem : t.DMEM = s.DMEM
  valid : t.PV = s.PV
  acc : t.PH = h
  mult : t.PR = s.PR
  pad : t.PS = s.PS

theorem Absorbed.refl (a b : XReg) (s : State) : Absorbed a b s.PH s s := ⟨rfl, fun _ _ _ => rfl, rfl, rfl, rfl, rfl, rfl⟩

theorem Absorbed.trans {g h : Nat} (hst : Absorbed a b g s t) (htu : Absorbed a b h t u) : Absorbed a b h s u where
  params := htu.params.trans hst.params
  xval j ha hb := (htu.xval j ha hb).trans (hst.xval j ha hb)
  mem := htu.mem.trans hst.mem
  valid := htu.valid.trans hst.valid
  acc := htu.acc
  mult := htu.mult.trans hst.mult
  pad := htu.pad.trans hst.pad

theorem State.xVal_writeX_self (s : State) (i : XReg) (v : Word) : (s.writeX i v).xVal i = v.toNat :=
  congrArg BitVec.toNat (file_set_self s.X i v)

theorem State.xVal_writeX_other (s : State) {i j : XReg} (v : Word) (h : j ≠ i) : (s.writeX i v).xVal j = s.xVal j :=
  congrArg BitVec.toNat (file_set_other s.X v h)

/-- The state in which the host issues PL.BLOCK: the address `x` in `X[a]`, the length `n` in `X[b]` (46_poly1305.md R262). -/
def State.withChunk (s : State) (a b : XReg) (x n : Nat) : State :=
  (s.writeX a (BitVec.ofNat 32 x)).writeX b (BitVec.ofNat 32 n)

theorem absorbChunks_succ (n m : Nat) {len : Nat} (hlen : len ≠ 0)
    (h : exec (.plBlock a b) (s.withChunk a b m (min 16 len)) = .next t) :
    absorbChunks a b (n + 1) m len s = absorbChunks a b n (m + 16) (len - 16) t := by
  rw [State.withChunk] at h
  rw [absorbChunks, if_neg hlen, h]

/-- One chunk that lies in DMEM is absorbed (46_poly1305.md R258). -/
theorem plBlock_absorbs (hab : a ≠ b) (hv : s.PV = true) {x n : Nat} (hlow : 1 ≤ n) (hhigh : n ≤ 16)
    (hx : x + n ≤ s.params.dmemBytes) (hp : s.params.dmemBytes ≤ 2 ^ 31) :
    ∃ t, exec (.plBlock a b) (s.withChunk a b x n) = .next t ∧
      Absorbed a b (absorb s.PH s.PR.toNat (s.DMEM.readBytes x n)) s t := by
  have hxa : (s.withChunk a b x n).xVal a = x := by
    rw [State.withChunk, State.xVal_writeX_other _ _ hab, State.xVal_writeX_self, BitVec.toNat_ofNat,
      Nat.mod_eq_of_lt (by omega)]
  have hxb : (s.withChunk a b x n).xVal b = n := by
    rw [State.withChunk, State.xVal_writeX_self, BitVec.toNat_ofNat, Nat.mod_eq_of_lt (by omega)]
  have hexec := exec_plBlock (s := s.withChunk a b x n) (a := a) (b := b) hv (hxb.symm ▸ hlow) (hxb.symm ▸ hhigh)
    (by rw [hxa, hxb]; exact State.inRange_iff.2 (.inr hx))
  rw [hxa, hxb] at hexec
  refine ⟨_, hexec, rfl, fun j ha hb => ?_, rfl, rfl, rfl, rfl, rfl⟩
  exact (State.xVal_writeX_other _ _ hb).trans (State.xVal_writeX_other _ _ ha)

/-- The chunks of a string of DMEM are absorbed in order (46_poly1305.md R256, R262). -/
theorem absorbChunks_absorbs (hab : a ≠ b) (n m len : Nat) (hv : s.PV = true)
    (hm : len = 0 ∨ m + len ≤ s.params.dmemBytes) (hp : s.params.dmemBytes ≤ 2 ^ 31) :
    ∃ t, absorbChunks a b n m len s = .next t ∧
      Absorbed a b ((chunksOf n (s.DMEM.readBytes m len)).foldl (fun h ch => absorb h s.PR.toNat ch) s.PH) s t := by
  induction n generalizing m len s with
  | zero => exact ⟨s, rfl, Absorbed.refl a b s⟩
  | succ n ih =>
    by_cases hlen : len = 0
    · subst hlen
      exact ⟨s, by rw [absorbChunks, if_pos rfl], Absorbed.refl a b s⟩
    · obtain ⟨t, ht, hst⟩ :=
        plBlock_absorbs (x := m) (n := min 16 len) hab hv (by omega) (by omega) (by omega) hp
      obtain ⟨u, hu, htu⟩ :=
        ih (m + 16) (len - 16) (hst.valid.trans hv) (by rw [hst.params]; omega) (hst.params ▸ hp)
      refine ⟨u, (absorbChunks_succ n m hlen ht).trans hu, ?_⟩
      rw [chunksOf_readBytes _ _ _ hlen, List.foldl_cons]
      rw [hst.mem, hst.mult, hst.acc] at htu
      exact hst.trans htu

/-! ## The obligations -/

/-- Settles O57: the step commands fold the chunks into the accumulator as the authenticator does, and what they leave of
`X[d]`, the multiplier and the pad is what PL.FINAL reads. -/
theorem polyStepsEqualOneShot : Obligations.PolyStepsEqualOneShot := by
  intro s a b c d hinv hab hda hdb hm hc hd
  have hp : s.params.dmemBytes ≤ 2 ^ 31 := dmemBytes_le hinv.params
  have hcr : s.inRange (s.xVal c) 32 = true := State.inRange_iff.2 (.inr hc)
  have hdr : s.inRange (s.xVal d) 16 = true := State.inRange_iff.2 (.inr hd)
  obtain ⟨t2, h2, habs⟩ := absorbChunks_absorbs (s := s.keyed (s.DMEM.readBytes (s.xVal c) 32)) hab (s.xVal b)
    (s.xVal a) (s.xVal b) rfl hm hp
  have hxd : t2.xVal d = s.xVal d := habs.xval d hda hdb
  have hvalid : t2.PV = true := habs.valid
  have hfinal := exec_plFinal (d := d) hvalid
    (by rw [hxd]; exact State.inRange_iff.2 (.inr (habs.params ▸ hd)))
  have htag : tagBytes t2.PH t2.PS =
      poly1305 (s.DMEM.readBytes (s.xVal a) (s.xVal b)) (s.DMEM.readBytes (s.xVal c) 32) := by
    rw [habs.acc, habs.pad, poly1305, polyHash, Memory.readBytes_length]
    rfl
  refine ⟨_, t2, _, _, exec_plInit hcr, h2, hfinal, exec_plAuth (State.inRange_iff.2 hm) hcr hdr,
    by rw [State.complete_PV, State.writeMem_PV, hvalid], rfl, ?_⟩
  calc
    _ = tagBytes t2.PH t2.PS := by
      rw [State.complete_DMEM, State.writeMem_DMEM, hxd]
      exact readBytes_writeBytes_of_length _ _ (tagBytes_length _ _)
    _ = _ := htag
    _ = _ := (readBytes_writeBytes_of_length s.DMEM _ (poly1305_length _ _)).symm

/-- Settles O55: the key byte by byte, the chunk by the definition of absorption, and the tag by reading it back. -/
theorem polySteps : Obligations.PolySteps := by
  intro s a b d
  refine ⟨fun ha => ?init, fun hv hlow hhigh ha => ?block, fun hv hd => ?final⟩
  case init =>
    exact ⟨_, exec_plInit (State.inRange_iff.2 (.inr ha)), (Effect.polyKey _).completes, rfl, rfl, toNat_keyS _ _,
      leBytes_keyR _ _⟩
  case block =>
    refine ⟨_, exec_plBlock hv hlow hhigh (State.inRange_iff.2 (.inr ha)),
      (Effect.polyAcc hv (absorb_lt _ _ _)).completes, rfl, rfl, hv, ?_⟩
    rw [State.complete_PH, State.writePH_PH, absorb, chunkVal, Memory.readBytes_length]
  case final =>
    have hdr : s.inRange (s.xVal d) 16 = true := State.inRange_iff.2 (.inr hd)
    exact ⟨_, exec_plFinal hv hdr, (Effect.mem hdr (tagBytes_length _ _)).completes,
      leVal_readBytes_writeBytes s.DMEM _ (Nat.mod_lt _ (by decide))⟩

/-- Settles O56: the tag stored is read back, and two tags are equal exactly if the OR of their differences is zero. -/
theorem polyOneShots : Obligations.PolyOneShots := by
  intro s a b c d e
  refine ⟨fun hm hc hd => ?auth, fun ha hm he => ?verify⟩
  case auth =>
    have hdr : s.inRange (s.xVal d) 16 = true := State.inRange_iff.2 (.inr hd)
    exact ⟨_, exec_plAuth (State.inRange_iff.2 hm) (State.inRange_iff.2 (.inr hc)) hdr,
      (Effect.memPoly hdr (poly1305_length _ _)).completes, rfl, rfl, rfl, rfl,
      readBytes_writeBytes_of_length s.DMEM _ (poly1305_length _ _)⟩
  case verify =>
    refine ⟨_, exec_plVerify (State.inRange_iff.2 (.inr ha)) (State.inRange_iff.2 hm) (State.inRange_iff.2 (.inr he)),
      (Effect.truthPoly d _).completes, rfl, rfl, rfl, rfl, ?_⟩
    refine (file_set_self s.X d _).trans ?_
    simp only [boolWord_beq, tagDiff_eq_zero ((Memory.readBytes_length _ _ _).trans (poly1305_length _ _).symm)]

end Sys2Proof.Machine

/-! # The stream commands

A stream command makes one write and invalidates the words (47_stream.md R275): S20.STREAM and XS.STREAM store a keystream,
and S20.XOR and XS.XOR leave what `streamLoop` leaves. The loop is the assignments of R280 in order on every overlap; where no
output byte is written before a message byte at its address is read, it acts on a copy of the message. -/

namespace Sys2Proof.Machine

variable {s t : State} {a b c d e f : XReg} {i : Instr} {ks : List Byte → List Byte → Nat → List Byte} {n : Nat}

/-! ## The bytes of the keystream -/

/-- Byte `r` of block `j`, where every block has `n` bytes. -/
theorem flatMap_getD {α : Type} (l : List α) (g : α → List Byte) (hg : ∀ x, (g x).length = n) (z : Byte) {j r : Nat}
    (hj : j < l.length) (hr : r < n) : (l.flatMap g).getD (n * j + r) z = (g l[j]).getD r z := by
  induction l generalizing j with
  | nil => exact absurd hj (Nat.not_lt_zero j)
  | cons x l ih =>
    rw [List.flatMap_cons]
    cases j with
    | zero =>
      rw [Nat.mul_zero, Nat.zero_add, List.getD_append _ _ _ _ (by rwa [hg])]
      rfl
    | succ j =>
      have hskip : n * (j + 1) + r - (g x).length = n * j + r := by rw [hg, Nat.mul_succ]; omega
      rw [List.getD_append_right _ _ _ _ (by rw [hg, Nat.mul_succ]; omega), hskip]
      exact ih (Nat.lt_of_succ_lt_succ hj)

/-- Byte `i` of the keystream is byte `i` mod 64 of block `i` div 64 (47_stream.md R276, R277). -/
theorem keystream_getD (n8 k : List Byte) {len i : Nat} (h : i < len) :
    (keystream n8 k len).getD i 0 = (salsaCore (n8 ++ leBytes 8 (i / 64)) k sigma).getD (i % 64) 0 := by
  have hblock : i / 64 < (List.range ((len + 63) / 64)).length := by rw [List.length_range]; omega
  calc
    _ = (keystreamBlocks n8 k ((len + 63) / 64)).getD (64 * (i / 64) + i % 64) 0 := by
      rw [Nat.div_add_mod, keystream, List.getD_eq_getElem?_getD, List.getD_eq_getElem?_getD, List.getElem?_take_of_lt h]
    _ = _ := by
      rw [keystreamBlocks, flatMap_getD _ _ (fun _ => salsaCore_length _ _ _) _ hblock (Nat.mod_lt i (by decide)),
        List.getElem_range]
      rfl

/-- The XSalsa20 keystream of a nonce in DMEM: its first 16 bytes make the subkey, its last 8 the input blocks
(47_stream.md R278). -/
theorem xkeystream_readBytes (m : Memory) (x : Nat) (k : List Byte) (len : Nat) :
    xkeystream (m.readBytes x 24) k len =
      keystream (m.readBytes (x + 16) 8) (hsalsaCore (m.readBytes x 16) k sigma) len := by
  rw [xkeystream, Memory.readBytes_take, Memory.readBytes_drop]
  rfl

/-! ## The loop, one assignment after another -/

theorem foldl_range_succ {α : Type} (g : α → Nat → α) (x : α) (n : Nat) :
    (List.range (n + 1)).foldl g x = (List.range n).foldl (fun y i => g y (i + 1)) (g x 0) := by
  rw [List.range_succ_eq_map, List.foldl_cons, List.foldl_map]

theorem Memory.writeBytes_eq_foldl (m : Memory) (q : Nat) (bs : List Byte) :
    m.writeBytes q bs = (List.range bs.length).foldl (fun m i => m.write (q + i) (bs.getD i 0)) m := by
  induction bs generalizing m q with
  | nil => rfl
  | cons b bs ih =>
    rw [Memory.writeBytes, ih, List.length_cons, foldl_range_succ]
    simp only [Nat.add_zero, List.getD_cons_zero, List.getD_cons_succ, Nat.add_right_comm, Nat.add_assoc]

theorem xorLoop_eq_foldl (m : Memory) (q x : Nat) (bs : List Byte) :
    xorLoop m q x bs =
      (List.range bs.length).foldl (fun m i => m.write (q + i) (m.read (x + i) ^^^ bs.getD i 0)) m := by
  induction bs generalizing m q x with
  | nil => rfl
  | cons b bs ih =>
    rw [xorLoop, ih, List.length_cons, foldl_range_succ]
    simp only [Nat.add_zero, List.getD_cons_zero, List.getD_cons_succ, Nat.add_right_comm, Nat.add_assoc]

section
variable {bs : List Byte} {pad len : Nat}

theorem getD_take (bs : List Byte) {i pad : Nat} (h : i < pad) : (bs.take pad).getD i 0 = bs.getD i 0 := by
  rw [List.getD_eq_getElem?_getD, List.getElem?_take_of_lt h, List.getD_eq_getElem?_getD]

theorem getD_drop (bs : List Byte) (i pad : Nat) : (bs.drop pad).getD i 0 = bs.getD (pad + i) 0 := by
  rw [List.getD_eq_getElem?_getD, List.getElem?_drop, List.getD_eq_getElem?_getD]

/-- The pad comes first, then each message byte is read as the writes before it have left it (47_stream.md R280). -/
theorem streamLoop_eq_foldl (h : bs.length = pad + len) (m : Memory) (q x : Nat) :
    streamLoop m q x pad bs =
      (List.range len).foldl (fun m i => m.write (q + pad + i) (m.read (x + i) ^^^ bs.getD (pad + i) 0))
        ((List.range pad).foldl (fun m i => m.write (q + i) (bs.getD i 0)) m) := by
  have hpad : m.writeBytes q (bs.take pad) = (List.range pad).foldl (fun m i => m.write (q + i) (bs.getD i 0)) m := by
    rw [Memory.writeBytes_eq_foldl, List.length_take_of_le (by omega)]
    refine List.foldl_ext _ _ _ fun m i hi => ?_
    rw [getD_take bs (List.mem_range.1 hi)]
  rw [streamLoop, xorLoop_eq_foldl, List.length_drop, h, Nat.add_sub_cancel_left, hpad]
  simp only [getD_drop]

/-! ## The loop, byte by byte -/

/-- No assignment of the message part reaches the pad (47_stream.md R280). -/
theorem read_streamLoop_pad (h : bs.length = pad + len) (m : Memory) (q x : Nat) {i : Nat} (hi : i < pad) :
    (streamLoop m q x pad bs).read (q + i) = bs.getD i 0 := by
  have hlen : i < (bs.take pad).length := by rw [List.length_take]; omega
  rw [streamLoop, read_xorLoop_other _ _ _ _ _ (by omega), Memory.read_writeBytes _ _ _ _ hlen,
    ← List.getD_eq_getElem _ 0 hlen, getD_take bs hi]

/-- Where the output does not overtake the message, each message byte is read as it stood before the command
(47_stream.md R280). -/
theorem read_streamLoop_message (h : bs.length = pad + len) (m : Memory) {q x i : Nat} (hov : q + pad ≤ x ∨ x + len ≤ q)
    (hi : i < len) :
    (streamLoop m q x pad bs).read (q + pad + i) = m.read (x + i) ^^^ bs.getD (pad + i) 0 := by
  have hdrop : (bs.drop pad).length = len := by rw [List.length_drop]; omega
  have hbefore : (m.writeBytes q (bs.take pad)).read (x + i) = m.read (x + i) :=
    Memory.read_writeBytes_other _ _ _ _ (by rw [List.length_take]; omega)
  rw [streamLoop, read_xorLoop _ _ _ _ i (hdrop.symm ▸ hi) (by omega), hbefore,
    ← List.getD_eq_getElem _ 0 (hdrop.symm ▸ hi), getD_drop]

end

/-! ## The commands -/

/-- A keystream command whose operands lie in DMEM stores the leading bytes of its keystream (47_stream.md R281, R283). -/
theorem streamOut_result (hi : exec i s = s.finish (s.streamOut ks n d a b c)) (hks : ∀ x k n, (ks x k n).length = n)
    (hb : s.xVal b + n ≤ s.params.dmemBytes) (hc : s.xVal c + 32 ≤ s.params.dmemBytes)
    (hd : s.xVal a = 0 ∨ s.xVal d + s.xVal a ≤ s.params.dmemBytes) :
    ∃ t, exec i s = .next t ∧ Completes { w := true, base := s.xVal d, count := s.xVal a } s t ∧ t.WV = false ∧
      (∀ j : WIdx, t.W[j] = 0) ∧
      ∀ i < s.xVal a, t.DMEM.read (s.xVal d + i) =
        (ks (s.DMEM.readBytes (s.xVal b) n) (s.DMEM.readBytes (s.xVal c) 32) (s.xVal a)).getD i 0 := by
  have hdr : s.inRange (s.xVal d) (s.xVal a) = true := State.inRange_iff.2 hd
  have hok := (State.streamOut_ok (ks := ks)).2
    ⟨State.inRange_iff.2 (.inr hb), State.inRange_iff.2 (.inr hc), hdr, rfl⟩
  refine ⟨_, hi.trans (finish_of_ok hok), (Effect.memWords hdr (hks _ _ _)).completes, rfl, file_replicate 0, fun j hj => ?_⟩
  rw [List.getD_eq_getElem _ _ (by rwa [hks])]
  exact Memory.read_writeBytes _ _ _ _ _

/-- An XOR command with a legal pad whose operands lie in DMEM runs the loop (47_stream.md R282, R284). -/
theorem streamXor_result (hi : exec i s = s.finish (s.streamXor ks n d a b c e f)) (hks : ∀ x k n, (ks x k n).length = n)
    (hf : s.xVal f ≤ 63) (ha : s.xVal b = 0 ∨ s.xVal a + s.xVal b ≤ s.params.dmemBytes)
    (hc : s.xVal c + n ≤ s.params.dmemBytes) (he : s.xVal e + 32 ≤ s.params.dmemBytes)
    (hd : s.xVal f + s.xVal b = 0 ∨ s.xVal d + (s.xVal f + s.xVal b) ≤ s.params.dmemBytes) :
    ∃ t, exec i s = .next t ∧ Completes { w := true, base := s.xVal d, count := s.xVal f + s.xVal b } s t ∧
      t.WV = false ∧ (∀ j : WIdx, t.W[j] = 0) ∧
      t.DMEM = streamLoop s.DMEM (s.xVal d) (s.xVal a) (s.xVal f)
        (ks (s.DMEM.readBytes (s.xVal c) n) (s.DMEM.readBytes (s.xVal e) 32) (s.xVal f + s.xVal b)) := by
  have hdr : s.inRange (s.xVal d) (s.xVal f + s.xVal b) = true := State.inRange_iff.2 hd
  have hok := (State.streamXor_ok (ks := ks)).2
    ⟨hf, State.inRange_iff.2 ha, State.inRange_iff.2 (.inr hc), State.inRange_iff.2 (.inr he), hdr, rfl⟩
  exact ⟨_, hi.trans (finish_of_ok hok), (Effect.stream _ _ hdr (hks _ _ _)).completes, rfl, file_replicate 0, rfl⟩

/-- An XOR command that records no fault has run the loop (47_stream.md R282, R284). -/
theorem streamXor_completed (hi : exec i s = s.finish (s.streamXor ks n d a b c e f)) (h : exec i s = .next t)
    (hterr : t.STATUS.err = false) :
    t.DMEM = streamLoop s.DMEM (s.xVal d) (s.xVal a) (s.xVal f)
      (ks (s.DMEM.readBytes (s.xVal c) n) (s.DMEM.readBytes (s.xVal e) 32) (s.xVal f + s.xVal b)) := by
  rcases State.finish_next.1 (hi.symm.trans h) with ⟨u, hu, rfl⟩ | ⟨cause, -, rfl⟩
  · obtain ⟨-, -, -, -, -, rfl⟩ := State.streamXor_ok.1 hu
    rfl
  · exact absurd hterr (by simp)

/-! ## The obligations -/

/-- Settles O60: a command without a fault has run the loop, whose bytes are read one by one. -/
theorem streamXorOfACopiedMessage : Obligations.StreamXorOfACopiedMessage := by
  intro s t d a b c e f bs hov hexec _ hterr
  have hloop : bs.length = s.xVal f + s.xVal b ∧ t.DMEM = streamLoop s.DMEM (s.xVal d) (s.xVal a) (s.xVal f) bs := by
    rcases hexec with ⟨h, rfl⟩ | ⟨h, rfl⟩
    · exact ⟨keystream_length _ _ _, streamXor_completed rfl h hterr⟩
    · exact ⟨xkeystream_length _ _ _, streamXor_completed rfl h hterr⟩
  obtain ⟨hlen, hmem⟩ := hloop
  rw [hmem]
  exact ⟨fun i hi => read_streamLoop_pad hlen _ _ _ hi, fun i hi => read_streamLoop_message hlen _ hov hi⟩

/-- Settles O58: the bytes stored are those of the keystream, and each keystream byte lies in its block. -/
theorem keystreamBytes : Obligations.KeystreamBytes := by
  rintro s d a b c k rfl hc hd
  refine ⟨fun hb => ?salsa, fun hb => ?xsalsa⟩
  case salsa =>
    obtain ⟨t, ht, hcompletes, hwv, hzero, hread⟩ :=
      streamOut_result (i := .s20Stream d a b c) rfl keystream_length hb hc hd
    exact ⟨t, ht, hcompletes, hwv, hzero, fun i hi => (hread i hi).trans (keystream_getD _ _ hi)⟩
  case xsalsa =>
    obtain ⟨t, ht, hcompletes, hwv, hzero, hread⟩ :=
      streamOut_result (i := .xsStream d a b c) rfl xkeystream_length hb hc hd
    refine ⟨t, ht, hcompletes, hwv, hzero, fun i hi => ?_⟩
    rw [hread i hi, xkeystream_readBytes, keystream_getD _ _ hi]

/-- Settles O59: the loop of the model is the assignments in order. -/
theorem streamXorIsTheByteLoop : Obligations.StreamXorIsTheByteLoop := by
  rintro s d a b c e f _ bs hf ha he hd rfl
  refine ⟨fun hc hbs => ?salsa, fun hc hbs => ?xsalsa⟩
  case salsa =>
    obtain ⟨t, ht, hcompletes, hwv, hzero, hmem⟩ :=
      streamXor_result (i := .s20Xor d a b c e f) rfl keystream_length hf ha hc he hd
    rw [← hbs] at hmem
    exact ⟨t, ht, hcompletes, hwv, hzero, hmem.trans (streamLoop_eq_foldl (hbs ▸ keystream_length _ _ _) _ _ _)⟩
  case xsalsa =>
    obtain ⟨t, ht, hcompletes, hwv, hzero, hmem⟩ :=
      streamXor_result (i := .xsXor d a b c e f) rfl xkeystream_length hf ha hc he hd
    rw [← hbs] at hmem
    exact ⟨t, ht, hcompletes, hwv, hzero, hmem.trans (streamLoop_eq_foldl (hbs ▸ xkeystream_length _ _ _) _ _ _)⟩

end Sys2Proof.Machine

/-! # The match and mask columns

A row's mask covers whole fields: the opcode, and those that must be zero. The decoder checks the same fields
(`decodeFields_of_row`), so a word meets its row exactly if it decodes (`match_iff`). -/

namespace Sys2Proof

/-- The six operand fields, in field order (30_encoding.md R101). -/
def Fields.operands (g : Fields) : List Nat := [g.d, g.a, g.b, g.c, g.e, g.f]

/-- Those fields of `g` that the mask of the row `r` covers. -/
def OpcodeRow.maskedFields (r : OpcodeRow) (g : Fields) : List Nat :=
  ((fieldsOf r.mask).operands.zip g.operands).filterMap fun (m, n) => if m = 0 then none else some n

/-- The row's match column is its opcode with zero operands, and its mask covers the opcode and each other field wholly or
not at all. -/
def OpcodeRow.regular (r : OpcodeRow) : Bool :=
  fieldsOf r.pattern == ⟨r.opcode, 0, 0, 0, 0, 0, 0⟩ && (fieldsOf r.mask).op == 255 &&
    (fieldsOf r.mask).operands.all fun m => m == 0 || m == 15

theorem opcodeTable_regular : ∀ r ∈ opcodeTable, r.regular = true := by decide

/-- The decoder has a command for each row, and asks of it that the fields under the row's mask be zero
(30_encoding.md R103, R107). -/
theorem decodeFields_of_row {r : OpcodeRow} (hr : r ∈ opcodeTable) {g : Fields} (hg : r.opcode = g.op) :
    ∃ i, decodeFields g = ifZero (r.maskedFields g) i := by
  obtain ⟨op, d, a, b, c, e, f⟩ := g
  subst hg
  revert r
  simp only [opcodeTable, systemRows, multiplierRows, invertRows, scalarRows, pointRows, ladderRows, salsaRows, polyRows,
    streamRows, List.cons_append, List.nil_append, List.forall_mem_cons]
  -- Row after row, the decoder's arm for its opcode is found by evaluation.
  repeat refine ⟨⟨_, rfl⟩, ?_⟩
  nofun

/-- Conjunction acts field by field. -/
theorem fieldsOf_and (v w : Word) : fieldsOf (v &&& w) =
    ⟨(fieldsOf v).op &&& (fieldsOf w).op, (fieldsOf v).d &&& (fieldsOf w).d, (fieldsOf v).a &&& (fieldsOf w).a,
      (fieldsOf v).b &&& (fieldsOf w).b, (fieldsOf v).c &&& (fieldsOf w).c, (fieldsOf v).e &&& (fieldsOf w).e,
      (fieldsOf v).f &&& (fieldsOf w).f⟩ := by
  have h16 (x y : Nat) : (x &&& y) % 16 = x % 16 &&& y % 16 := Nat.and_mod_two_pow (n := 4)
  simp only [fieldsOf, BitVec.toNat_and, Nat.and_div_two_pow, h16]

/-- The fields of a word determine it (30_encoding.md R101). -/
theorem fieldsOf_injective : Function.Injective fieldsOf := by
  intro v w h
  apply BitVec.eq_of_toNat_eq
  rw [← number_fieldsOf, h, number_fieldsOf]

/-- A field under a mask that covers it wholly or not at all is zero exactly if it is zero where it is covered. -/
theorem and_field_eq_zero_iff {n m : Nat} (hn : n < 16) (hm : m = 0 ∨ m = 15) : n &&& m = 0 ↔ m = 0 ∨ n = 0 := by
  rcases hm with rfl | rfl
  · simp
  · have hmod : n &&& 15 = n % 16 := Nat.and_two_pow_sub_one_eq_mod n 4
    rw [hmod, Nat.mod_eq_of_lt hn]
    simp

theorem forall_mem_maskedFields {r : OpcodeRow} {g : Fields} : (∀ n ∈ r.maskedFields g, n = 0) ↔
    ∀ x ∈ (fieldsOf r.mask).operands.zip g.operands, x.1 = 0 ∨ x.2 = 0 := by
  simp only [OpcodeRow.maskedFields, List.mem_filterMap, Prod.exists, Prod.forall, Option.ite_none_left_eq_some,
    Option.some.injEq, forall_exists_index, and_imp, or_iff_not_imp_left]
  exact ⟨fun h m n hmem hm => h n m n hmem hm rfl, fun h n m n' hmem hm hn => hn ▸ h m n' hmem hm⟩

/-- A word meets the match and mask columns of the row of its opcode exactly if the fields under the mask are zero
(60_exceptions.md R345). -/
theorem match_iff {r : OpcodeRow} (hr : r.regular = true) {w : Word} (hw : r.opcode = (fieldsOf w).op) :
    w &&& r.mask = r.pattern ↔ ∀ n ∈ r.maskedFields (fieldsOf w), n = 0 := by
  simp only [OpcodeRow.regular, Bool.and_eq_true, beq_iff_eq] at hr
  obtain ⟨⟨hpattern, hop⟩, hmask⟩ := hr
  obtain ⟨hlt, hd, ha, hb, hc, he, hf⟩ := Fields.fits_iff.1 (fieldsOf_fits w)
  have h255 : (fieldsOf w).op &&& 255 = (fieldsOf w).op :=
    (Nat.and_two_pow_sub_one_eq_mod _ 8).trans (Nat.mod_eq_of_lt hlt)
  simp only [Fields.operands, List.all_cons, List.all_nil, Bool.and_true, Bool.and_eq_true, Bool.or_eq_true,
    beq_iff_eq] at hmask
  obtain ⟨md, ma, mb, mc, me, mf⟩ := hmask
  rw [← fieldsOf_injective.eq_iff, fieldsOf_and, hpattern, hop, h255, hw, forall_mem_maskedFields]
  simp only [Fields.operands, Fields.mk.injEq, and_field_eq_zero_iff, List.zip_cons_cons, List.zip_nil_right,
    List.forall_mem_cons, List.not_mem_nil, false_implies, implies_true, and_true, true_and, *]

/-- A must-be-zero field that is not zero is a reserved-field fault (30_encoding.md R107). -/
theorem ifZero_of_nonzero {fields : List Nat} (h : ¬∀ n ∈ fields, n = 0) (i : Instr) :
    ifZero fields i = .error .reservedField := by
  simpa [ifZero] using h

open Machine in
/-- An opcode byte that is in no row is in the list of 30_encoding.md R106. -/
theorem unassigned_of_no_row {n : Nat} (hn : n < 256) (h : ∀ r ∈ opcodeTable, r.opcode ≠ n) :
    ∃ r ∈ unassignedOpcodes, r.1 ≤ n ∧ n ≤ r.2 := by
  revert n
  decide +kernel

end Sys2Proof

namespace Sys2Proof.Machine

/-- Settles O4: the opcode by the list of the unassigned ones, the reserved fields by the masks. -/
theorem masksDecideReservedFields : Obligations.MasksDecideReservedFields := by
  intro s hb hi
  have hrun := step_run hb hi
  refine ⟨fun hno => ?_, fun r hr hop => ?_⟩
  · have hlt := (Fields.fits_iff.1 (fieldsOf_fits s.CUR)).1
    exact hrun.trans (runCurrent_error ((decode_illegal_iff s.CUR).2 (unassigned_of_no_row hlt hno)))
  · obtain ⟨i, hdecode⟩ := decodeFields_of_row (g := fieldsOf s.CUR) hr hop
    have hmatch := match_iff (opcodeTable_regular r hr) hop
    refine ⟨fun hne => ?_, fun heq => ?_⟩
    · exact hrun.trans (runCurrent_error (hdecode.trans (ifZero_of_nonzero (mt hmatch.2 hne) i)))
    · have hok : decode s.CUR = .ok i := hdecode.trans (ifZero_eq_ok_iff.2 ⟨hmatch.1 heq, rfl⟩)
      exact ⟨i, hok, hrun.trans (runCurrent_ok hok)⟩

end Sys2Proof.Machine

/-! # The first fault

`State.firstFault` computes from the tables of the spec the fault that the step order meets first, and `exec_firstFault` says
that this is how a command ends; when a cause is raised is then read off the tables. -/

namespace Sys2Proof.Machine

variable {s : State} {i : Instr} {c : Cause}

/-! ## The first fault -/

/-- The fault that the step order of 30_encoding.md R108 meets first, if there is one (60_exceptions.md R350). -/
def State.firstFault (s : State) (i : Instr) : Option Cause :=
  if s.sourcesValid i then
    (s.valueFault i).or
      (if (s.operandRanges i).all (fun r => s.inRange r.1 r.2) then
        if s.digitLegal i then none else some .badValue
      else some .addrRange)
  else some .uninit

theorem all_inRange_iff {ranges : List (Nat × Nat)} :
    ranges.all (fun r => s.inRange r.1 r.2) = true ↔ AllInRange s ranges := by
  simp [AllInRange, State.inRange_iff]

/-- A meaning either answers its first fault, or has none and answers a state with the same ERR. -/
theorem exec_firstFault (i : Instr) (s : State) :
    (∃ c, s.firstFault i = some c ∧ exec i s = .next (s.faulted c.code)) ∨
      s.firstFault i = none ∧ ∃ t, exec i s = .next t ∧ t.STATUS.err = s.STATUS.err := by
  obtain ⟨r, hr, h⟩ := exec_inOrder i s
  rw [hr, State.firstFault]
  generalize s.sourcesValid i = b, s.valueFault i = value, s.operandRanges i = ranges, s.digitLegal i = digit at h
  cases h with
  | uninit => exact .inl ⟨.uninit, rfl, rfl⟩
  | value c => exact .inl ⟨c, rfl, rfl⟩
  | range digit hall =>
    have hall' := mt all_inRange_iff.1 hall
    exact .inl ⟨.addrRange, by simp [hall'], rfl⟩
  | digit hall => exact .inl ⟨.badValue, by simp [all_inRange_iff.2 hall], rfl⟩
  | done hall hu => exact .inr ⟨by simp [all_inRange_iff.2 hall], _, rfl, by simp [hu.1]⟩

/-- A command with a first fault ends with its record (60_exceptions.md R343). -/
theorem exec_of_firstFault (h : s.firstFault i = some c) : exec i s = .next (s.faulted c.code) := by
  rcases exec_firstFault i s with ⟨c', hc', hexec⟩ | ⟨hnone, -⟩
  · cases h.symm.trans hc'
    exact hexec
  · cases h.symm.trans hnone

/-- The six causes have six codes (60_exceptions.md R341). -/
theorem Cause.code_injective : Function.Injective Cause.code := by
  intro c c' h
  cases c <;> cases c' <;> revert h <;> decide

/-- While ERR = 0, a command ends with the record of a cause exactly if that is its first fault. -/
theorem exec_faulted_iff (he : s.STATUS.err = false) :
    exec i s = .next (s.faulted c.code) ↔ s.firstFault i = some c := by
  refine ⟨fun h => ?_, exec_of_firstFault⟩
  rcases exec_firstFault i s with ⟨c', hc', hexec⟩ | ⟨-, t, hexec, ht⟩
  · have hst : s.faulted c'.code = s.faulted c.code := Host.Outcome.next.inj (hexec.symm.trans h)
    rwa [← Cause.code_injective (congrArg State.CAUSE hst)]
  · have hst : t = s.faulted c.code := Host.Outcome.next.inj (hexec.symm.trans h)
    rw [hst, he] at ht
    cases ht

/-! ## The causes -/

/-- An X value outside its range is BAD_LENGTH or BAD_VALUE (60_exceptions.md R348, R349). -/
theorem valueFault_some (h : s.valueFault i = some c) : c = .badLength ∨ c = .badValue := by
  cases i with
  | plBlock a b =>
    cases (Option.ite_none_left_eq_some.1 h).2
    exact .inl rfl
  | feCmov | geMadd | s20Xor | xsXor =>
    cases (Option.ite_none_left_eq_some.1 h).2
    exact .inr rfl
  | _ => cases h

/-- The first fault is UNINIT exactly if a source or the unit state is not valid (60_exceptions.md R346). -/
theorem firstFault_uninit_iff : s.firstFault i = some .uninit ↔ s.sourcesValid i = false := by
  have hvalue : s.valueFault i ≠ some .uninit := fun h => by simpa using valueFault_some h
  cases hs : s.sourcesValid i with
  | false => simp [State.firstFault, hs]
  | true =>
    simp only [State.firstFault, hs, if_true, Option.or_eq_some_iff, hvalue, false_or, reduceCtorEq, iff_false, not_and]
    intro _
    split_ifs <;> simp

/-- The first fault is ADDR_RANGE exactly if the checks before the ranges pass and a range does not (60_exceptions.md R347). -/
theorem firstFault_addrRange_iff :
    s.firstFault i = some .addrRange ↔
      s.sourcesValid i = true ∧ s.valueFault i = none ∧ ¬AllInRange s (s.operandRanges i) := by
  have hvalue : s.valueFault i ≠ some .addrRange := fun h => by simpa using valueFault_some h
  rw [← all_inRange_iff]
  cases hs : s.sourcesValid i with
  | false => simp [State.firstFault, hs]
  | true => simp [State.firstFault, hs, hvalue]

/-- A command with valid sources has the fault of its X value as its first (60_exceptions.md R350). -/
theorem firstFault_of_valueFault (hs : s.sourcesValid i = true) (hv : s.valueFault i = some c) :
    s.firstFault i = some c := by
  simp [State.firstFault, hs, hv]

/-- An illegal value read from DMEM is the last of the checks (30_encoding.md R108, step 6). -/
theorem firstFault_digit (hs : s.sourcesValid i = true) (hv : s.valueFault i = none)
    (hr : AllInRange s (s.operandRanges i)) (hd : s.digitLegal i = false) : s.firstFault i = some .badValue := by
  simp [State.firstFault, hs, hv, all_inRange_iff.2 hr, hd]

/-- The digits that GE.MADD takes, as bytes (43_ge25519.md R198). -/
theorem digit_iff_mem (b : Byte) :
    (-4 ≤ signed8 b ∧ signed8 b ≤ 4) ↔ b ∈ [0xfc, 0xfd, 0xfe, 0xff, 0x00, 0x01, 0x02, 0x03, 0x04] := by
  revert b
  decide

/-! ## The obligations -/

/-- Settles O28: UNINIT is the first check of every command. -/
theorem uninitFaults : Obligations.UninitFaults := by
  intro i s he
  refine ⟨(exec_faulted_iff (c := .uninit) he).trans firstFault_uninit_iff, fun d a x y z => ?_⟩
  simp [State.sourcesValid]

/-- Settles O29: the checks before the ranges pass, and the ranges of the two commands are those of the statement. -/
theorem addressSumsDoNotWrap : Obligations.AddressSumsDoNotWrap := by
  intro s a b c d e f g he
  refine ⟨(exec_faulted_iff (c := .addrRange) he).trans ?_, fun hf hnonce hkey =>
    (exec_faulted_iff (c := .addrRange) he).trans ?_⟩
  · rw [firstFault_addrRange_iff]
    simp only [State.sourcesValid, State.valueFault, State.operandRanges, allInRange_cons, allInRange_nil,
      State.inRange_iff, State.xVal, true_and, and_true]
    omega
  · have hvalue : s.valueFault (.s20Xor d a b c e f) = none := if_pos hf
    rw [firstFault_addrRange_iff]
    simp only [State.sourcesValid, hvalue, State.operandRanges, allInRange_cons, allInRange_nil, State.inRange_iff,
      State.xVal, true_and, and_true]
    omega

/-- Settles O30: in each case the checks before the one that fails pass. -/
theorem lengthAndValueFaults : Obligations.LengthAndValueFaults := by
  intro s a b c e f x d g q r
  refine ⟨fun hv hlen => ?length, fun hd hg hx => ?cmov, fun hf => ⟨?s20, ?xs⟩, fun hr => ?invalid, fun hr hb => ?position,
    fun hr hb hc => ?address, fun hr hb hc hdigit => ?digit⟩
  case length =>
    exact exec_of_firstFault (c := .badLength) (firstFault_of_valueFault hv (if_neg (by simp only [State.xVal]; omega)))
  case cmov =>
    exact exec_of_firstFault (c := .badValue)
      (firstFault_of_valueFault (Bool.and_eq_true_iff.2 ⟨hd, hg⟩) (if_neg hx.not_ge))
  case s20 => exact exec_of_firstFault (c := .badValue) (firstFault_of_valueFault rfl (if_neg hf.not_ge))
  case xs => exact exec_of_firstFault (c := .badValue) (firstFault_of_valueFault rfl (if_neg hf.not_ge))
  case invalid => exact exec_of_firstFault (c := .uninit) (firstFault_uninit_iff.2 hr)
  case position => exact exec_of_firstFault (c := .badValue) (firstFault_of_valueFault hr (if_neg hb.not_ge))
  case address =>
    refine exec_of_firstFault (c := .addrRange) (firstFault_addrRange_iff.2 ⟨hr, if_pos hb, ?_⟩)
    simp only [State.operandRanges, allInRange_cons, allInRange_nil, State.inRange_iff, State.xVal]
    omega
  case digit =>
    refine exec_of_firstFault (c := .badValue) (firstFault_digit hr (if_pos hb) ?_ (decide_eq_false ?_))
    · exact allInRange_cons.2 ⟨State.inRange_iff.2 (.inr hc), allInRange_nil⟩
    · exact mt (digit_iff_mem _).1 hdigit

end Sys2Proof.Machine

/-! # What changes the fault record

What the fault of the running command leaves, and the only other causes of a change: the host's write to CLR, and a reset. -/

namespace Sys2Proof.Machine

variable {s t : State} {a : Access} {width : Width} {offset : Nat} {v : Word} {later : List Input}

/-- Settles O27: a step that leaves ERR = 1 has not completed a command, so it has taken one fault record. -/
theorem faultsArePrecise : Obligations.FaultsArePrecise := by
  intro s t hb hd he hi hs ht
  rcases runCurrent_control ((step_run hb hi).symm.trans hs) with ⟨-, hstatus⟩ | ⟨c, rfl⟩
  · rw [hstatus, he] at ht
    cases ht
  · obtain ⟨hlow, hhigh⟩ := code_range c
    exact ⟨hlow, hhigh, by rw [takeFault_eq, State.faulted, hd]⟩

/-- ERR, CAUSE and ERRCMD are the same in `t` as in `s` (10_state.md R49, R50). -/
def SameRecord (s t : State) : Prop := t.STATUS.err = s.STATUS.err ∧ t.CAUSE = s.CAUSE ∧ t.ERRCMD = s.ERRCMD

theorem SameRecord.refl (s : State) : SameRecord s s := ⟨rfl, rfl, rfl⟩

/-- The host's write to CLR that returns from a fault (60_exceptions.md R355). -/
def ClearsErr (a : Access) : Prop := ∃ v : Word, a = .write .word 0x018 v ∧ v.getLsbD 2 = true

/-- A write to CLR with bit 2 clear leaves ERR and its record (60_exceptions.md R355). -/
theorem writeClr_sameRecord (hv : v.getLsbD 2 = false) : SameRecord s (s.writeClr v) := by
  simp only [SameRecord, State.writeClr_STATUS, State.writeClr_CAUSE, State.writeClr_ERRCMD, hv, Bool.not_false,
    Bool.and_true, Bool.false_eq_true, if_false, and_self]

theorem writeCmd_sameRecord (s : State) (v : Word) : SameRecord s (s.writeCmd v) := by
  unfold State.writeCmd
  split
  · exact .refl s
  · exact .refl s

/-- No register but CLR reaches the record (10_state.md R46). -/
theorem writeReg_record (h : s.writeReg offset v = some t) :
    SameRecord s t ∨ offset = 0x018 ∧ v.getLsbD 2 = true := by
  unfold State.writeReg at h
  split at h
  case h_7 =>
    cases h
    cases hv : v.getLsbD 2 with
    | true => exact .inr ⟨rfl, rfl⟩
    | false => exact .inl (writeClr_sameRecord hv)
  case h_8 =>
    cases h
    exact .inl (writeCmd_sameRecord s v)
  case h_9 =>
    obtain ⟨i, -, rfl⟩ := Option.map_eq_some_iff.1 h
    exact .inl (.refl s)
  all_goals
    cases h
    exact .inl (.refl s)

theorem hostWrite_record (h : s.hostWrite width offset v = some t) :
    SameRecord s t ∨ ClearsErr (.write width offset v) := by
  rcases hostWrite_cases h with hr | ⟨a, -, rfl⟩
  · rcases writeReg_record hr with hsame | ⟨rfl, hv⟩
    · exact .inl hsame
    · obtain rfl : width = .word := by
        by_contra hw
        cases (hostWrite_narrow (by decide) hw).symm.trans h
      exact .inr ⟨v, rfl, hv⟩
  · exact .inl (.refl s)

/-- An access changes the record only if it clears ERR. -/
theorem perform_record (s : State) (a : Access) : SameRecord s (s.perform a) ∨ ClearsErr a := by
  cases a with
  | read width offset =>
    cases hr : s.hostRead width offset with
    | some v => exact .inl (perform_read hr ▸ .refl s)
    | none => exact .inl (perform_read_error hr ▸ .refl s)
  | write width offset v =>
    cases hw : s.hostWrite width offset v with
    | some t =>
      have hrecord := hostWrite_record hw
      rwa [perform_write hw]
    | none => exact .inl (perform_write_error hw ▸ .refl s)

/-- The word in CUR keeps the record or writes its own (60_exceptions.md R343). -/
theorem runCurrent_record (h : runCurrent s = .next t) :
    SameRecord s t ∨ t.STATUS.err = true ∧ 1 ≤ t.CAUSE.toNat ∧ t.CAUSE.toNat ≤ 6 ∧ t.ERRCMD = s.CUR := by
  rcases runCurrent_control h with ⟨hc, hstatus⟩ | ⟨c, rfl⟩
  · exact .inl ⟨by rw [hstatus], hc.cause, hc.errcmd⟩
  · obtain ⟨hlow, hhigh⟩ := code_range c
    exact .inr ⟨rfl, hlow, hhigh, rfl⟩

/-- What a step can do to the record, said once: keep it, a reset, the write to CLR, or the fault of the running command. -/
theorem step_record (h : step s = .next t) :
    SameRecord s t ∨ (∃ later, s.inputs = .reset :: later) ∨
      (s.STATUS.busy = false ∧
        ∃ v later, s.inputs = .access (.write .word 0x018 v) :: later ∧ v.getLsbD 2 = true) ∨
      s.STATUS.busy = true ∧ t.STATUS.err = true ∧ 1 ≤ t.CAUSE.toNat ∧ t.CAUSE.toNat ≤ 6 ∧ t.ERRCMD = s.CUR := by
  rcases step_next h with ⟨later, hi, -⟩ | ⟨-, -, rfl⟩ | ⟨hb, a, later, hi, rfl⟩ | ⟨-, a, later, -, ha, rfl⟩ |
    ⟨hb, hr | hr⟩
  · exact .inr (.inl ⟨later, hi⟩)
  · exact .inl (.refl _)
  · rcases perform_record (s.withInputs later) a with hsame | ⟨v, rfl, hv⟩
    · exact .inl hsame
    · exact .inr (.inr (.inl ⟨hb, v, later, hi, hv⟩))
  · rcases perform_record (s.withInputs later).countDraw a with hsame | ⟨v, rfl, -⟩
    · exact .inl hsame
    · cases ha
  · exact (runCurrent_record hr).imp_right fun hf => .inr (.inr ⟨hb, hf⟩)
  · exact (runCurrent_record hr).imp_right fun hf => .inr (.inr ⟨hb, hf⟩)

theorem and_not_eq_ite (x y : Bool) : (x && !y) = if y = true then false else x := by cases y <;> simp

/-- The step of a block that is not busy, with a write to CLR at the port (60_exceptions.md R355). -/
theorem step_writeClr (hb : s.STATUS.busy = false) (h : s.inputs = .access (.write .word 0x018 v) :: later) :
    step s = .next { (s.withInputs later).writeClr v with answer := .done } :=
  step_writeReg hb h (by decide) (by decide) rfl

/-- Settles O10: the write to CLR by its step, and the other clauses by what a step can do to the record. -/
theorem clrWriteReturnsFromFault : Obligations.ClrWriteReturnsFromFault := by
  refine ⟨fun s v later h => ⟨fun hb => ?_, fun hb => ?_⟩, fun s t h => ⟨fun he ht => ?_, fun hne => ?_⟩⟩
  · rw [step_writeClr hb h]
    simp only [State.writeClr, State.withInputs, hb, and_not_eq_ite]
  · obtain ⟨t, ht, hi, -, htb⟩ := runCurrent_port s
    exact ⟨t, (step_held hb h rfl).trans ht, htb, hi⟩
  · rcases step_record h with ⟨herr, -⟩ | hreset | hclr | ⟨-, herr, -⟩
    · simp [herr, he] at ht
    · exact .inl hreset
    · exact .inr hclr
    · simp [herr] at ht
  · rcases step_record h with ⟨-, hcause, herrcmd⟩ | hchange
    · simp [hcause, herrcmd] at hne
    · exact hchange

end Sys2Proof.Machine

/-! # What the host can see

`SameToHost` lists what an access can depend on; every access keeps it and is answered alike in both states. -/

namespace Sys2Proof.Machine

variable {s s' : State}

/-- The two states differ at most in what no access reads: the typed and unit registers, the held word, the form of the
memory, and the model's own fields. -/
structure SameToHost (s s' : State) : Prop where
  params : s.params = s'.params
  x : s.X = s'.X
  ctrl : s.CTRL = s'.CTRL
  status : s.STATUS = s'.STATUS
  cause : s.CAUSE = s'.CAUSE
  errcmd : s.ERRCMD = s'.ERRCMD
  mem : ∀ x, s.DMEM.read x = s'.DMEM.read x

/-- A byte string written to memories that read alike leaves memories that read alike, whatever their form. -/
theorem Memory.read_writeBytes_congr {m m' : Memory} (h : ∀ x, m.read x = m'.read x) (q : Nat) (bs : List Byte) :
    ∀ x, (m.writeBytes q bs).read x = (m'.writeBytes q bs).read x := by
  induction bs generalizing m m' q with
  | nil => exact h
  | cons b bs ih => exact ih (fun x => by rw [Memory.read_write, Memory.read_write, h]) (q + 1)

namespace SameToHost

/-- Register reads (10_state.md R46). -/
theorem readReg (h : SameToHost s s') (offset : Nat) : s.readReg offset = s'.readReg offset := by
  simp only [State.readReg, h.params, h.x, h.ctrl, h.status, h.cause, h.errcmd]

theorem inWindow (h : SameToHost s s') (width : Width) (offset : Nat) :
    s.inWindow width offset = s'.inWindow width offset := by
  simp only [State.inWindow, h.params]

/-- Reads, defined or not. -/
theorem hostRead (h : SameToHost s s') (width : Width) (offset : Nat) :
    s.hostRead width offset = s'.hostRead width offset := by
  have hmem (x n : Nat) : s.DMEM.readBytes x n = s'.DMEM.readBytes x n := Memory.readBytes_congr fun _ _ => h.mem _
  simp only [State.hostRead, h.readReg, h.inWindow, hmem]

theorem writeClr (h : SameToHost s s') (v : Word) : SameToHost (s.writeClr v) (s'.writeClr v) where
  params := h.params
  x := h.x
  ctrl := h.ctrl
  status := by simp only [State.writeClr_STATUS, h.status]
  cause := by simp only [State.writeClr_CAUSE, h.cause]
  errcmd := by simp only [State.writeClr_ERRCMD, h.errcmd]
  mem := h.mem

theorem writeCmd (h : SameToHost s s') (v : Word) : SameToHost (s.writeCmd v) (s'.writeCmd v) := by
  unfold State.writeCmd
  rw [← h.status]
  split
  · exact h
  · exact { h with status := by simp only [State.accept, h.status] }

theorem writeX (h : SameToHost s s') (i : XReg) (v : Word) : SameToHost (s.writeX i v) (s'.writeX i v) :=
  { h with x := congrArg (·.set i v) h.x }

theorem writeMem (h : SameToHost s s') (q : Nat) (bs : List Byte) : SameToHost (s.writeMem q bs) (s'.writeMem q bs) :=
  { h with mem := Memory.read_writeBytes_congr h.mem q bs }

/-- Register writes, defined or not. -/
theorem writeReg (h : SameToHost s s') (offset : Nat) (v : Word) :
    Option.Rel SameToHost (s.writeReg offset v) (s'.writeReg offset v) := by
  unfold State.writeReg
  split
  case h_3 => exact .some { h with ctrl := rfl }
  case h_7 => exact .some (h.writeClr v)
  case h_8 => exact .some (h.writeCmd v)
  case h_9 =>
    cases xRegAt offset with
    | none => exact .none
    | some i => exact .some (h.writeX i v)
  all_goals exact .some h

/-- Writes, defined or not. -/
theorem hostWrite (h : SameToHost s s') (width : Width) (offset : Nat) (v : Word) :
    Option.Rel SameToHost (s.hostWrite width offset v) (s'.hostWrite width offset v) := by
  unfold State.hostWrite
  rw [← h.inWindow]
  split_ifs
  · exact h.writeReg offset v
  · exact .none
  · exact .some (h.writeMem _ _)
  · exact .none
  · exact .none

/-- An access is answered alike, and what it leaves is the same to the next one. -/
theorem perform (h : SameToHost s s') (a : Access) :
    SameToHost (s.perform a) (s'.perform a) ∧ (s.perform a).answer = (s'.perform a).answer := by
  cases a with
  | read width offset =>
    simp only [State.perform, ← h.hostRead]
    split
    · exact ⟨{ h with }, rfl⟩
    · exact ⟨{ h with }, rfl⟩
  | write width offset v =>
    have hw := h.hostWrite width offset v
    simp only [State.perform]
    generalize s.hostWrite width offset v = r, s'.hostWrite width offset v = r' at hw
    cases hw with
    | some ht => exact ⟨{ ht with }, rfl⟩
    | none => exact ⟨{ h with }, rfl⟩

/-- The interrupt output (60_exceptions.md R352). -/
theorem irq (h : SameToHost s s') : s.irq = s'.irq := by simp only [State.irq, h.ctrl, h.status]

end SameToHost

/-- Settles O25: every access keeps what the host can see. -/
theorem hostSeesNoTypedRegister : Obligations.HostSeesNoTypedRegister := by
  intro s s' a hparams hx hctrl hstatus hcause herrcmd hmem
  obtain ⟨hsame, hanswer⟩ := SameToHost.perform ⟨hparams, hx, hctrl, hstatus, hcause, herrcmd, hmem⟩ a
  exact ⟨hanswer, hsame.x, hsame.irq, hsame.mem⟩

end Sys2Proof.Machine

/-! # The hardware reset

Power-on and the reset step both leave a `State.afterReset`, so what a reset leaves is said of that. -/

namespace Sys2Proof.Machine

/-- Power-on and the reset step leave the same kind of state (70_reset_and_hazards.md R380, R381). -/
theorem afterReset_of_reset {t : State}
    (h : t = State.reset ∨ ∃ (s : State) (later : List Input), s.inputs = .reset :: later ∧ step s = .next t) :
    ∃ c k later, t = State.afterReset c k later := by
  rcases h with rfl | ⟨s, later, hi, hs⟩
  · exact ⟨Params.standard, 0, [], rfl⟩
  · cases (step_reset hi).symm.trans hs
    exact ⟨s.params, s.draws, later, rfl⟩

/-- Settles O14: register by register of the state after a reset. -/
theorem resetValues : Obligations.ResetValues := by
  intro t h
  obtain ⟨c, k, later, rfl⟩ := afterReset_of_reset h
  exact ⟨file_replicate _, rfl, rfl, rfl, rfl, rfl, rfl, hostRead_reg (by decide) (by decide),
    hostRead_reg (by decide) (by decide), file_replicate _, file_replicate _, file_replicate _, file_replicate _, rfl, rfl,
    rfl, rfl, rfl⟩

/-- Settles O15: no byte is listed over the new draw, so every byte reads as the draw has it. -/
theorem resetDrawsDmem : Obligations.ResetDrawsDmem := fun _ _ h =>
  ⟨_, step_reset h, rfl, rfl, rfl, rfl, fun _ => rfl⟩

/-- Every P register is invalid after a reset (70_reset_and_hazards.md R382). -/
theorem State.PointsOnCurve.afterReset (c : Params) (k : Nat) (later : List Input) :
    (State.afterReset c k later).PointsOnCurve := .of_P_cleared rfl

/-- Settles O17: `State.afterReset` has both invariants whatever the legal parameters, and power-on is one case of it. -/
theorem resetHasInv : Obligations.ResetHasInv :=
  ⟨.afterReset (by decide) 0 [], .afterReset _ 0 [], fun _ k later hc => ⟨.afterReset hc k later, .afterReset _ k later⟩⟩

end Sys2Proof.Machine
